-- ==== Sys2Proof/Word.lean ====
section
/-! DEFINITION. The word types of the TTC and the largest value of a u32 port (00_scope R10). -/

namespace Sys2Proof

/-- A byte of a transaction or of a timestamp array (u8, R10). -/
abbrev Byte := BitVec 8

/-- A device time or a GPIO bit field (u32, R10, R33, R34). -/
abbrev Word32 := BitVec 32

/-- A timestamp value (u64, R10, R151). -/
abbrev Word64 := BitVec 64

/-- The largest u32 value: the bound of durations, base delays and device times (R82, R170). -/
abbrev u32Max : Nat := 4294967295

/-- The largest u64 value: the bound of PACKLE's value port (R82, R150). -/
abbrev u64Max : Nat := 18446744073709551615

end Sys2Proof
end

