-- ==== Sys2Proof/Syntax.lean ====
section
/-! DEFINITION. The instructions (one constructor per row of the opcode table), the access modes, the operand types,
the words a host sends and the host's inputs (30_encoding R74, R80, R82, R84; 10_state R36, R39). -/

namespace Sys2Proof

/-- The eight access modes of R74. -/
inductive Mode where
  | fc | sr | sw | fr | fw | mw8 | mw16 | mw32
  deriving DecidableEq, Repr, Inhabited

/-- A data rate port (R36): the two legal rates, and any other value a host may send. -/
inductive DataRate where
  | r6m8
  | r850k
  | other (code : Nat)
  deriving DecidableEq, Repr, Inhabited

/-- The SPI clock-rate selection (R24, R26). -/
inductive SpiRate where
  | slow | fast
  deriving DecidableEq, Repr, Inhabited

/-- The instructions: the eight wire transactions (R100 to R107), then the 21 host commands (R80). An unsigned port is
a natural number of any size, since a value outside its range is an operand with a result of its own (R82). A byte
sequence is a list of numbers for the same reason. -/
inductive Instr where
  | fastCommand (code : Nat)
  | shortRead (id : Nat) (n : Nat)
  | shortWrite (id : Nat) (body : List Nat)
  | fullRead (id : Nat) (sub : Option Nat) (n : Nat)
  | fullWrite (id : Nat) (sub : Option Nat) (body : List Nat)
  | maskedWrite8 (id : Nat) (sub : Option Nat) (body : List Nat)
  | maskedWrite16 (id : Nat) (sub : Option Nat) (body : List Nat)
  | maskedWrite32 (id : Nat) (sub : Option Nat) (body : List Nat)
  | enchdr (id : Nat) (sub : Option Nat) (mode : Nat)
  | dechdr (bytes : List Nat)
  | crc8 (bytes : List Nat) (init : Nat)
  | wframe (id : Nat) (sub : Option Nat) (mode : Nat) (body : List Nat)
  | rframe (id : Nat) (sub : Option Nat) (mode : Nat) (n : Nat)
  | fcmd (code : Nat)
  | chkw (frame : List Nat) (crc : Bool)
  | packle (v : Nat) (w : Nat)
  | unpackle (bytes : List Nat)
  | pboost (d : Nat)
  | rxdly (base : Nat) (plen : Nat) (rate : DataRate) (sts : Nat)
  | rxtmo (base : Nat) (plen : Nat) (rate : DataRate) (sts : Nat)
  | uus2dtu (u : Nat)
  | us2dtu (us : Nat)
  | dtu2us (d : Int)
  | dtudiff (a : Nat) (b : Nat)
  | cxcfg (pin : Option Nat) (level : Nat)
  | cxstart (delayed : Bool) (date : Nat)
  | cxstop
  | setcrc (on : Bool)
  | setrate (rate : SpiRate)
  deriving DecidableEq, Repr

/-- The pseudo-commands of R84. -/
inductive Pseudo where
  | read (id : Nat) (sub : Nat) (n : Nat)
  | write (id : Nat) (sub : Nat) (body : List Nat)
  | modify8 (id : Nat) (sub : Nat) (andMask : Nat) (orMask : Nat)
  | modify16 (id : Nat) (sub : Nat) (andMask : Nat) (orMask : Nat)
  | modify32 (id : Nat) (sub : Nat) (andMask : Nat) (orMask : Nat)
  deriving DecidableEq, Repr

/-- One named input port of a command word with its value (R80: "named values, not as packed bits"). -/
inductive Port where
  | id (x : Nat)
  | sub (x : Option Nat)
  | mode (x : Nat)
  | code (x : Nat)
  | bytes (x : List Nat)
  | init (x : Nat)
  | body (x : List Nat)
  | n (x : Nat)
  | frame (x : List Nat)
  | crc (x : Bool)
  | v (x : Nat)
  | w (x : Nat)
  | d (x : Nat)
  | dSigned (x : Int)
  | base (x : Nat)
  | plen (x : Nat)
  | rate (x : DataRate)
  | sts (x : Nat)
  | u (x : Nat)
  | us (x : Nat)
  | a (x : Nat)
  | b (x : Nat)
  | pin (x : Option Nat)
  | level (x : Nat)
  | delayed (x : Bool)
  | date (x : Nat)
  | on (x : Bool)
  | spiRate (x : SpiRate)
  deriving DecidableEq, Repr

/-- What a host sends to be executed: a command word of R80, or a wire transaction (its header and body bytes, and for
a read the requested length). The two encoding spaces overlap as bytes, so the word says which one it is in. -/
inductive HostWord where
  | command (opcode : Byte) (ports : List Port)
  | transaction (bytes : List Byte) (readLen : Option Nat)
  deriving DecidableEq, Repr

/-- One input of the host: a word for the named device (R39), or the start of a new session of it (R280, R283). -/
inductive HostInput where
  | issue (handle : Nat) (word : HostWord)
  | reset (handle : Nat)
  deriving DecidableEq, Repr

end Sys2Proof
end

