-- ==== Sys2Proof/Machine/Ranges.lean ====
section
/-! DEFINITION. The range of each kind of input port (30_encoding R82) and the legal frame shapes (10_state R36). -/

namespace Sys2Proof

/-- Every element of the sequence is a byte (R82). -/
def areBytes (xs : List Nat) : Bool := xs.all (fun x => decide (x ≤ 255))

/-- The preamble lengths of R36. -/
def legalPlen (p : Nat) : Bool := [32, 64, 72, 128, 256, 512, 1024, 1536, 2048, 4096].contains p

/-- The STS lengths of R36; 0 is STS off. -/
def legalSts (l : Nat) : Bool := [0, 32, 64, 128, 256, 512, 1024, 2048].contains l

/-- The data rates of R36. -/
def legalRate : DataRate → Bool
  | .r6m8 => true
  | .r850k => true
  | .other _ => false

/-- An optional sub-address is in range (R82). -/
def subInRange : Option Nat → Bool
  | none => true
  | some x => decide (x ≤ 127)

/-- A sub-address that a two-byte header can carry: present and in range (R71, R72). -/
def subPresent : Option Nat → Bool
  | none => false
  | some x => decide (x ≤ 127)

/-- A register id or fast-command code is in range (R72). -/
def idInRange (x : Nat) : Bool := decide (x ≤ 31)

/-- A u32 operand is in range (R82). -/
def isU32 (x : Nat) : Bool := decide (x ≤ u32Max)

end Sys2Proof
end

