-- ==== Sys2Proof/WellFormed.lean ====
section
/-! DEFINITION. Well-formed instructions: every operand is inside the range of its port (30_encoding R82, 10_state R36).
The machine does not ask for it: an ill-formed command has the result E_ARG_RANGE. An encoder needs it. -/

namespace Sys2Proof

/-- Every operand of the instruction is inside the range of its port. MAX_BODY and NPINS are parameters and are
checked by the machine (R113, R230). -/
def Instr.wf : Instr → Bool
  | .fastCommand code => idInRange code
  | .shortRead id _ => idInRange id
  | .shortWrite id body => idInRange id && areBytes body
  | .fullRead id sub _ => idInRange id && subPresent sub
  | .fullWrite id sub body => idInRange id && subPresent sub && areBytes body
  | .maskedWrite8 id sub body => idInRange id && subPresent sub && areBytes body
  | .maskedWrite16 id sub body => idInRange id && subPresent sub && areBytes body
  | .maskedWrite32 id sub body => idInRange id && subPresent sub && areBytes body
  | .enchdr id sub mode => idInRange id && subInRange sub && decide (mode ≤ 7)
  | .dechdr bytes => areBytes bytes
  | .crc8 bytes init => areBytes bytes && decide (init ≤ 255)
  | .wframe id sub mode body => idInRange id && subInRange sub && decide (mode ≤ 7) && areBytes body
  | .rframe id sub mode _ => idInRange id && subInRange sub && decide (mode ≤ 7)
  | .fcmd code => idInRange code
  | .chkw frame _ => areBytes frame
  | .packle v w => decide (v ≤ u64Max) && decide (w ≤ 8)
  | .unpackle bytes => areBytes bytes && decide (bytes.length ≤ 8)
  | .pboost d => isU32 d
  | .rxdly base plen rate sts => isU32 base && legalPlen plen && legalRate rate && legalSts sts
  | .rxtmo base plen rate sts => isU32 base && legalPlen plen && legalRate rate && legalSts sts
  | .uus2dtu u => isU32 u
  | .us2dtu us => isU32 us
  | .dtu2us d => decide (-2147483648 ≤ d) && decide (d ≤ 2147483647)
  | .dtudiff a b => isU32 a && isU32 b
  | .cxcfg pin level => (match pin with | none => true | some p => decide (p ≤ 31)) && decide (level ≤ 1)
  | .cxstart _ date => isU32 date
  | .cxstop => true
  | .setcrc _ => true
  | .setrate _ => true

end Sys2Proof
end

