-- ==== Sys2Proof/Decode.lean ====
section
/-! DEFINITION. The wire header codec (30_encoding R70 to R77), the decoder of the words a host sends, and the encoder.
Decoding is total: every word gives an instruction or is rejected by name. -/

namespace Sys2Proof

/-! ## Byte sequences -/

/-- The bytes of a sequence of numbers, each taken modulo 256; used only on sequences whose range has been checked. -/
def toBytes (xs : List Nat) : List Byte := xs.map (fun x => BitVec.ofNat 8 x)

/-- The numbers of a byte sequence. -/
def ofBytes (bs : List Byte) : List Nat := bs.map (fun b => b.toNat)

/-! ## The header (R70, R71, R73, R74) -/

/-- The mode of a mode port's code (the code column of R74). -/
def modeOfCode : Nat → Option Mode
  | 0 => some .fc
  | 1 => some .sr
  | 2 => some .sw
  | 3 => some .fr
  | 4 => some .fw
  | 5 => some .mw8
  | 6 => some .mw16
  | 7 => some .mw32
  | _ => none

/-- The code of a mode (the code column of R74). -/
def codeOfMode : Mode → Nat
  | .fc => 0
  | .sr => 1
  | .sw => 2
  | .fr => 3
  | .fw => 4
  | .mw8 => 5
  | .mw16 => 6
  | .mw32 => 7

/-- Whether the mode uses the two-byte header H2 (the L column of R74). -/
def modeIsLong : Mode → Bool
  | .fc => false
  | .sr => false
  | .sw => false
  | .fr => true
  | .fw => true
  | .mw8 => true
  | .mw16 => true
  | .mw32 => true

/-- `v[hi:lo]` of R8: the field of bits hi down to lo, as a number. -/
def bits (v hi lo : Nat) : Nat := v / 2 ^ lo % 2 ^ (hi + 1 - lo)

/-- Format H1 (R70): W is bit 7, L = 0 is bit 6, the register id or code is bits 5:1, F is bit 0. -/
def headerH1 (w id f : Nat) : List Byte := [BitVec.ofNat 8 (w * 2 ^ 7 + id * 2 ^ 1 + f)]

/-- Format H2 as the word HW (R71): W is bit 15, L = 1 is bit 14, the register id is bits 13:9, the sub-address is bits
8:2, M is bits 1:0. -/
def headerH2 (w id sub m : Nat) : Nat := w * 2 ^ 15 + 2 ^ 14 + id * 2 ^ 9 + sub * 2 ^ 2 + m

/-- The two bytes of HW, byte 0 first: HW = byte0 * 256 + byte1 (R55, R71). -/
def headerBytes (hw : Nat) : List Byte := [BitVec.ofNat 8 (hw / 256), BitVec.ofNat 8 (hw % 256)]

/-- `hdr(id, sub, mode)` of 40_transport_codec: the header bytes of a mode (R74). A short mode takes no sub-address. -/
def encodeHeader (mode : Mode) (id sub : Nat) : List Byte :=
  match mode with
  | .fc => headerH1 1 id 1
  | .sr => headerH1 0 id 0
  | .sw => headerH1 1 id 0
  | .fr => headerBytes (headerH2 0 id sub 0)
  | .fw => headerBytes (headerH2 1 id sub 0)
  | .mw8 => headerBytes (headerH2 1 id sub 1)
  | .mw16 => headerBytes (headerH2 1 id sub 2)
  | .mw32 => headerBytes (headerH2 1 id sub 3)

/-- What a header says (the outputs of DECHDR, R109). -/
structure Header where
  id : Nat
  sub : Option Nat
  mode : Mode
  hlen : Nat
  deriving DecidableEq, Repr

/-- Why a byte sequence has no header (R76, R109). -/
inductive HeaderError where
  | truncated
  | reserved
  deriving DecidableEq, Repr

/-- The mode that field M selects in a write-class H2 header (R71, R109). -/
def writeModeOfM : Nat → Mode
  | 0 => .fw
  | 1 => .mw8
  | 2 => .mw16
  | _ => .mw32

/-- A one-byte header, from the number of byte 0 (R109). -/
def decodeH1 (b0 : Nat) : Except HeaderError Header :=
  if bits b0 0 0 = 1 then
    if bits b0 7 7 = 0 then .error .reserved else .ok ⟨bits b0 5 1, none, .fc, 1⟩
  else .ok ⟨bits b0 5 1, none, if bits b0 7 7 = 1 then .sw else .sr, 1⟩

/-- A two-byte header, from the numbers of its bytes (R73, R109). -/
def decodeH2 (b0 b1 : Nat) : Except HeaderError Header :=
  if bits b0 7 7 = 0 then
    if bits b1 1 0 = 0 then .ok ⟨bits b0 5 1, some (bits b0 0 0 * 64 + bits b1 7 2), .fr, 2⟩ else .error .reserved
  else .ok ⟨bits b0 5 1, some (bits b0 0 0 * 64 + bits b1 7 2), writeModeOfM (bits b1 1 0), 2⟩

/-- The header at the front of a byte sequence (R109). Bit 6 of byte 0 tells its length (R75); bytes after the header are
ignored. -/
def decodeHeader : List Byte → Except HeaderError Header
  | [] => .error .truncated
  | b0 :: rest =>
    if bits b0.toNat 6 6 = 0 then decodeH1 b0.toNat
    else
      match rest with
      | [] => .error .truncated
      | b1 :: _ => decodeH2 b0.toNat b1.toNat

/-! ## The words a host sends -/

/-- Why a word has no instruction. -/
inductive Reject where
  /-- The opcode is not one of the 21 of R80 (R81). -/
  | unassignedOpcode (opcode : Nat)
  /-- The ports are not those of the opcode's rule, in its order. -/
  | malformedPorts (opcode : Nat)
  /-- A transaction without a whole header (R75). -/
  | truncatedHeader
  /-- A transaction whose header selects no mode (R76). -/
  | reservedHeader
  /-- A transaction with a body, or without a read length, that its mode does not have (R74), or the reverse. -/
  | malformedTransaction (mode : Mode)
  deriving DecidableEq, Repr

/-- The 21 opcodes of R80. -/
def assignedOpcodes : List Nat :=
  [0x01, 0x02, 0x03, 0x04, 0x05, 0x06, 0x07, 0x10, 0x11, 0x20, 0x21, 0x22, 0x23, 0x24, 0x25, 0x26, 0x30, 0x31, 0x32,
    0x40, 0x41]

/-- The instruction of a command word (R80): the opcode selects the command, the ports follow in the order of its rule. -/
def decodeCommand (opcode : Nat) (ports : List Port) : Except Reject Instr :=
  match opcode with
  | 0x01 => match ports with
    | [.id id, .sub sub, .mode mode] => .ok (.enchdr id sub mode)
    | _ => .error (.malformedPorts opcode)
  | 0x02 => match ports with
    | [.bytes bytes] => .ok (.dechdr bytes)
    | _ => .error (.malformedPorts opcode)
  | 0x03 => match ports with
    | [.bytes bytes, .init init] => .ok (.crc8 bytes init)
    | _ => .error (.malformedPorts opcode)
  | 0x04 => match ports with
    | [.id id, .sub sub, .mode mode, .body body] => .ok (.wframe id sub mode body)
    | _ => .error (.malformedPorts opcode)
  | 0x05 => match ports with
    | [.id id, .sub sub, .mode mode, .n n] => .ok (.rframe id sub mode n)
    | _ => .error (.malformedPorts opcode)
  | 0x06 => match ports with
    | [.code code] => .ok (.fcmd code)
    | _ => .error (.malformedPorts opcode)
  | 0x07 => match ports with
    | [.frame frame, .crc crc] => .ok (.chkw frame crc)
    | _ => .error (.malformedPorts opcode)
  | 0x10 => match ports with
    | [.v v, .w w] => .ok (.packle v w)
    | _ => .error (.malformedPorts opcode)
  | 0x11 => match ports with
    | [.bytes bytes] => .ok (.unpackle bytes)
    | _ => .error (.malformedPorts opcode)
  | 0x20 => match ports with
    | [.d d] => .ok (.pboost d)
    | _ => .error (.malformedPorts opcode)
  | 0x21 => match ports with
    | [.base base, .plen plen, .rate rate, .sts sts] => .ok (.rxdly base plen rate sts)
    | _ => .error (.malformedPorts opcode)
  | 0x22 => match ports with
    | [.base base, .plen plen, .rate rate, .sts sts] => .ok (.rxtmo base plen rate sts)
    | _ => .error (.malformedPorts opcode)
  | 0x23 => match ports with
    | [.u u] => .ok (.uus2dtu u)
    | _ => .error (.malformedPorts opcode)
  | 0x24 => match ports with
    | [.us us] => .ok (.us2dtu us)
    | _ => .error (.malformedPorts opcode)
  | 0x25 => match ports with
    | [.dSigned d] => .ok (.dtu2us d)
    | _ => .error (.malformedPorts opcode)
  | 0x26 => match ports with
    | [.a a, .b b] => .ok (.dtudiff a b)
    | _ => .error (.malformedPorts opcode)
  | 0x30 => match ports with
    | [.pin pin, .level level] => .ok (.cxcfg pin level)
    | _ => .error (.malformedPorts opcode)
  | 0x31 => match ports with
    | [.delayed delayed, .date date] => .ok (.cxstart delayed date)
    | _ => .error (.malformedPorts opcode)
  | 0x32 => match ports with
    | [] => .ok .cxstop
    | _ => .error (.malformedPorts opcode)
  | 0x40 => match ports with
    | [.on on] => .ok (.setcrc on)
    | _ => .error (.malformedPorts opcode)
  | 0x41 => match ports with
    | [.spiRate rate] => .ok (.setrate rate)
    | _ => .error (.malformedPorts opcode)
  | _ => .error (.unassignedOpcode opcode)

/-- A transaction that sends a body and asks for no reply (R74). -/
def bodyOnly (mode : Mode) (readLen : Option Nat) (i : Instr) : Except Reject Instr :=
  match readLen with
  | none => .ok i
  | some _ => .error (.malformedTransaction mode)

/-- The instruction of a transaction (R74): the header selects the mode; a read has a length and no body, a write has a
body and no length, a fast command has neither. -/
def decodeTransaction (bytes : List Byte) (readLen : Option Nat) : Except Reject Instr :=
  match decodeHeader bytes with
  | .error .truncated => .error .truncatedHeader
  | .error .reserved => .error .reservedHeader
  | .ok h =>
    let body := ofBytes (bytes.drop h.hlen)
    match h.mode with
    | .fc => match body, readLen with
      | [], none => .ok (.fastCommand h.id)
      | _, _ => .error (.malformedTransaction .fc)
    | .sr => match body, readLen with
      | [], some n => .ok (.shortRead h.id n)
      | _, _ => .error (.malformedTransaction .sr)
    | .fr => match body, readLen with
      | [], some n => .ok (.fullRead h.id h.sub n)
      | _, _ => .error (.malformedTransaction .fr)
    | .sw => bodyOnly .sw readLen (.shortWrite h.id body)
    | .fw => bodyOnly .fw readLen (.fullWrite h.id h.sub body)
    | .mw8 => bodyOnly .mw8 readLen (.maskedWrite8 h.id h.sub body)
    | .mw16 => bodyOnly .mw16 readLen (.maskedWrite16 h.id h.sub body)
    | .mw32 => bodyOnly .mw32 readLen (.maskedWrite32 h.id h.sub body)

/-- The instruction of a host word, or the reason it has none. -/
def decode : HostWord → Except Reject Instr
  | .command opcode ports => decodeCommand opcode.toNat ports
  | .transaction bytes readLen => decodeTransaction bytes readLen

/-! ## The encoder -/

/-- The transaction word of a mode with its body and read length; the fields must be in range. -/
def encodeTransaction (mode : Mode) (id : Nat) (sub : Option Nat) (body : List Nat) (readLen : Option Nat) : HostWord :=
  .transaction (encodeHeader mode id (sub.getD 0) ++ toBytes body) readLen

/-- The word of a well-formed instruction (R74, R80). -/
def encode : Instr → HostWord
  | .fastCommand code => encodeTransaction .fc code none [] none
  | .shortRead id n => encodeTransaction .sr id none [] (some n)
  | .shortWrite id body => encodeTransaction .sw id none body none
  | .fullRead id sub n => encodeTransaction .fr id sub [] (some n)
  | .fullWrite id sub body => encodeTransaction .fw id sub body none
  | .maskedWrite8 id sub body => encodeTransaction .mw8 id sub body none
  | .maskedWrite16 id sub body => encodeTransaction .mw16 id sub body none
  | .maskedWrite32 id sub body => encodeTransaction .mw32 id sub body none
  | .enchdr id sub mode => .command 0x01#8 [.id id, .sub sub, .mode mode]
  | .dechdr bytes => .command 0x02#8 [.bytes bytes]
  | .crc8 bytes init => .command 0x03#8 [.bytes bytes, .init init]
  | .wframe id sub mode body => .command 0x04#8 [.id id, .sub sub, .mode mode, .body body]
  | .rframe id sub mode n => .command 0x05#8 [.id id, .sub sub, .mode mode, .n n]
  | .fcmd code => .command 0x06#8 [.code code]
  | .chkw frame crc => .command 0x07#8 [.frame frame, .crc crc]
  | .packle v w => .command 0x10#8 [.v v, .w w]
  | .unpackle bytes => .command 0x11#8 [.bytes bytes]
  | .pboost d => .command 0x20#8 [.d d]
  | .rxdly base plen rate sts => .command 0x21#8 [.base base, .plen plen, .rate rate, .sts sts]
  | .rxtmo base plen rate sts => .command 0x22#8 [.base base, .plen plen, .rate rate, .sts sts]
  | .uus2dtu u => .command 0x23#8 [.u u]
  | .us2dtu us => .command 0x24#8 [.us us]
  | .dtu2us d => .command 0x25#8 [.dSigned d]
  | .dtudiff a b => .command 0x26#8 [.a a, .b b]
  | .cxcfg pin level => .command 0x30#8 [.pin pin, .level level]
  | .cxstart delayed date => .command 0x31#8 [.delayed delayed, .date date]
  | .cxstop => .command 0x32#8 []
  | .setcrc on => .command 0x40#8 [.on on]
  | .setrate rate => .command 0x41#8 [.spiRate rate]

/-! ## Words of the opcode table -/

/-- The ports of an opcode with every operand zero, absent or empty (the operand part of a table word, which has no
bits of its own, R80). -/
def zeroPorts : Nat → List Port
  | 0x01 => [.id 0, .sub none, .mode 0]
  | 0x02 => [.bytes []]
  | 0x03 => [.bytes [], .init 0]
  | 0x04 => [.id 0, .sub none, .mode 0, .body []]
  | 0x05 => [.id 0, .sub none, .mode 0, .n 0]
  | 0x06 => [.code 0]
  | 0x07 => [.frame [], .crc false]
  | 0x10 => [.v 0, .w 0]
  | 0x11 => [.bytes []]
  | 0x20 => [.d 0]
  | 0x21 => [.base 0, .plen 0, .rate .r6m8, .sts 0]
  | 0x22 => [.base 0, .plen 0, .rate .r6m8, .sts 0]
  | 0x23 => [.u 0]
  | 0x24 => [.us 0]
  | 0x25 => [.dSigned 0]
  | 0x26 => [.a 0, .b 0]
  | 0x30 => [.pin none, .level 0]
  | 0x31 => [.delayed false, .date 0]
  | 0x40 => [.on false]
  | 0x41 => [.spiRate .slow]
  | _ => []

/-- The number of zero body bytes of a table word of the mode: the shortest body the mode allows (R113). -/
def shortestBody : Mode → Nat
  | .fc => 0
  | .sr => 0
  | .fr => 0
  | .sw => 1
  | .fw => 1
  | .mw8 => 2
  | .mw16 => 4
  | .mw32 => 8

/-- The shortest read length of a table word of the mode (R113). -/
def shortestRead : Mode → Option Nat
  | .sr => some 1
  | .fr => some 1
  | _ => none

/-- A header completed to a whole transaction with the shortest body of zeros. -/
def completeTransaction (header : List Byte) : HostWord :=
  match decodeHeader header with
  | .error _ => .transaction header none
  | .ok h => .transaction (header ++ List.replicate (shortestBody h.mode) 0#8) (shortestRead h.mode)

/-- The word whose table bits are `w` (log entry 6): 16 bits are the word HW of an H2 header, byte 0 first (R71); 8 bits
are a command's opcode where R80 assigns it, and an H1 header otherwise. The operands without bits are zero. -/
def tableWord (nbits w : Nat) : HostWord :=
  if nbits = 16 then completeTransaction (headerBytes w)
  else if assignedOpcodes.contains (w % 256) then .command (BitVec.ofNat 8 w) (zeroPorts (w % 256))
  else completeTransaction [BitVec.ofNat 8 w]

/-- The instruction the decoder reads from a table word. -/
def decodeTableWord (nbits w : Nat) : Option Instr :=
  match decode (tableWord nbits w) with
  | .ok i => some i
  | .error _ => none

end Sys2Proof
end

