-- ==== Sys2Proof/Config.lean ====
section
/-! DEFINITION. The parameters of the TTC (00_scope R6), the answers a collaborator can give (R11, R20), and the free
values: what the spec leaves open is an opaque constant here, so that no proof can know it. -/

namespace Sys2Proof

/-! ## Parameters -/

/-- What RXDLY does on a budget underflow (R6, R182). -/
inductive UnderflowPolicy where
  | clamp | fault
  deriving DecidableEq, Repr, Inhabited

/-- The OPEN parameters of R6 but for the tables: each device has its own (R39). They do not change during a session
(R284); R7 constrains them. -/
structure Params where
  maxBody : Nat
  fastcmdCrc : Bool
  uusToDtuK : Nat
  dtuPerUsNum : Nat
  dtuPerUsDen : Nat
  coexTimeUs : Nat
  coexMarginUs : Nat
  npins : Nat
  underflowPolicy : UnderflowPolicy
  deriving DecidableEq, Repr

/-- The two boost tables of R32: constant, and shared by all devices (R39). -/
structure Tables where
  lut1 : List Byte
  lut2 : List Byte
  deriving DecidableEq, Repr

/-- Entry `i` of a boost table, as a number of 0.1 dB; 0 past the table's end, where no rule looks. -/
def lutEntry (lut : List Byte) (i : Nat) : Nat := (lut.getD i 0#8).toNat

/-- The constraints of R172 on LUT1 (33 entries by C3; the reading of D16). -/
abbrev Lut1Ok (lut : List Byte) : Prop :=
  lut.length = 33 ∧ lutEntry lut 0 = 0 ∧ lutEntry lut 32 = 68 ∧ (∀ i < 32, lutEntry lut i ≤ lutEntry lut (i + 1)) ∧
    0 < lutEntry lut 20 ∧ lutEntry lut 20 < 68

/-- The constraints of R172 on LUT2. -/
abbrev Lut2Ok (lut : List Byte) : Prop :=
  lut.length = 14 ∧ lutEntry lut 0 = 68 ∧ lutEntry lut 13 = 113 ∧ (∀ i < 13, lutEntry lut i ≤ lutEntry lut (i + 1))

/-- The constraints of R172 on the two tables. -/
abbrev Tables.Ok (t : Tables) : Prop := Lut1Ok t.lut1 ∧ Lut2Ok t.lut2

/-! ## Answers of the collaborators -/

/-- The outcome of a call that returns Ok or Fail (R11). -/
inductive Ack where
  | ok | fail
  deriving DecidableEq, Repr, Inhabited

/-- The outcome of a GPIO call. A failed call leaves the pins it named at any value (R203, R206, I8): the bits of
`leaves` at those pins. -/
inductive GpioAck where
  | ok
  | fail (leaves : Word32)
  deriving DecidableEq, Repr, Inhabited

/-- The answers one collaborator call will get: those fixed so far, in order, and how many have been free values once
none was fixed any more (log entry 3). -/
structure Draws (α : Type) where
  listed : List α
  drawn : Nat
  deriving DecidableEq, Repr

/-- The answers to come, one stream for each kind of call: SPI writes, SPI reads (any byte sequence or Fail), GPIO calls,
device-time reads (any value or Fail). -/
structure Answers where
  spi : Draws Ack
  read : Draws (Option (List Byte))
  gpio : Draws GpioAck
  time : Draws (Option Word32)
  deriving DecidableEq, Repr

/-! ## Free values. Those of a device take its handle, so that two devices' values are independent (R39, log entry 14);
a draw also takes the number of free draws the device has made of its kind. -/

/-- The outcome of an SPI write that no listed answer fixes. -/
opaque Config.freeAck : Nat → Nat → Ack

/-- The reply to a read that no listed answer fixes. -/
opaque Config.freeReply : Nat → Nat → Option (List Byte)

/-- The outcome of a GPIO call that no listed answer fixes. -/
opaque Config.freeGpio : Nat → Nat → GpioAck

/-- The device time (or Fail) that no listed answer fixes. -/
opaque Config.freeTime : Nat → Nat → Option Word32

/-- The GPIO levels at power-on (R282: any value). -/
opaque Config.gpioAtReset : Nat → Word32

/-- The GPIO directions at power-on (R282: any value). -/
opaque Config.gpioDirAtReset : Nat → Word32

/-- MAX_BODY above its least value 8 (R6). -/
opaque Config.maxBodyAbove8 : Nat → Nat

/-- NPINS before it is brought into 1 to 32 (R7). -/
opaque Config.rawPins : Nat → Nat

/-- The repository's tables and coexistence times, which the source does not hold (N3, N17). -/
opaque Config.rawLut1 : List Byte
opaque Config.rawLut2 : List Byte
opaque Config.rawCoexTime : Nat → Nat
opaque Config.rawCoexMargin : Nat → Nat

/-! ## The parameters at power-on -/

/-- One legal LUT1: it stands in only where the free table is not legal, so that the constraints of R172 hold. -/
def Config.someLut1 : List Byte := List.replicate 20 0#8 ++ [34#8] ++ List.replicate 12 68#8

/-- One legal LUT2, as `Config.someLut1`. -/
def Config.someLut2 : List Byte := List.replicate 13 68#8 ++ [113#8]

/-- LUT1 of this machine: any legal table (R172). -/
def Config.lut1 : List Byte := if Lut1Ok Config.rawLut1 then Config.rawLut1 else Config.someLut1

/-- LUT2 of this machine: any legal table (R172). -/
def Config.lut2 : List Byte := if Lut2Ok Config.rawLut2 then Config.rawLut2 else Config.someLut2

/-- The tables of this machine. -/
def Config.tables : Tables := ⟨Config.lut1, Config.lut2⟩

/-- The coexistence times of a device: any pair whose sum is positive and whose DTU value at the default ratio
1248/5 is below 2^31 (R7: a sum of 1 to 8603700 µs). The vectors' pair (95_test_vectors, "for illustration only")
stands in where the free pair is not legal. -/
def Config.coex (k : Nat) : Nat × Nat :=
  if 0 < Config.rawCoexTime k + Config.rawCoexMargin k ∧ Config.rawCoexTime k + Config.rawCoexMargin k ≤ 8603700 then
    (Config.rawCoexTime k, Config.rawCoexMargin k)
  else (1000, 500)

/-- The parameters of device `k` at power-on: the default of R6 where R6 gives one, any legal value elsewhere. -/
def Config.params (k : Nat) : Params where
  maxBody := Config.maxBodyAbove8 k + 8
  fastcmdCrc := false
  uusToDtuK := 65536
  dtuPerUsNum := 1248
  dtuPerUsDen := 5
  coexTimeUs := (Config.coex k).1
  coexMarginUs := (Config.coex k).2
  npins := Config.rawPins k % 32 + 1
  underflowPolicy := .clamp

end Sys2Proof
end

