-- ==== Sys2Proof/Machine/Flags.lean ====
section
/-! DEFINITION. The conditions a command computes. The TTC has no flag register (10_state R23); it reports the underflow
indication `out.uf` and the overflow verdict of R170, and these are not kept. -/

namespace Sys2Proof.Machine

/-- A UUS or DTU result fits its u32 output (R170). -/
def fitsU32 (x : Nat) : Bool := decide (x ≤ u32Max)

/-- `out.uf` of RXDLY (R179): the base delay is smaller than the subtracted preamble. -/
def underflows (base sub : Nat) : Bool := decide (base < sub)

end Sys2Proof.Machine
end

