-- ==== Sys2Proof/Machine/State.lean ====
section
/-! DEFINITION. The state of the machine as plain data (10_state R24, R33, R39; 20_memory R56), the results a command
returns (60_exceptions R251), the faults (R253) and the refusals (R254), and the state after reset (R280). -/

namespace Sys2Proof.Machine

/-! ## Results -/

/-- The result codes of R251. -/
inductive Code where
  | ok
  | crcMismatch
  | shortRead
  | longRead
  | hdrTruncated
  | hdrReserved
  | argRange
  | mode
  | length
  | hwReject
  deriving DecidableEq, Repr

/-- The output ports of a command, by the rule that lists them; `none` where a result carries no outputs. -/
inductive Outputs where
  | none
  /-- ENCHDR (R108): `out.hdr`. -/
  | hdr (bytes : List Byte)
  /-- DECHDR (R109): `out.id`, `out.sub`, `out.mode`, `out.hlen`. -/
  | header (id : Nat) (sub : Option Nat) (mode : Mode) (hlen : Nat)
  /-- CRC8 (R112): `out.crc`. -/
  | crc (c : Byte)
  /-- WFRAME, FCMD (R115, R117): `out.frame`, the bytes sent. -/
  | frame (bytes : List Byte)
  /-- RFRAME (R116): `out.data`. -/
  | data (bytes : List Byte)
  /-- CHKW (R118): `out.id`, `out.sub`, `out.mode`, `out.body`. -/
  | received (id : Nat) (sub : Option Nat) (mode : Mode) (body : List Byte)
  /-- PACKLE (R150): `out.bytes`. -/
  | bytes (bs : List Byte)
  /-- UNPACKLE (R151): `out.v`. -/
  | value (v : Word64)
  /-- PBOOST (R175): `out.boost`, in 0.1 dB. -/
  | boost (b : Byte)
  /-- RXDLY (R179): `out.delayUus`, `out.delayDtu`, `out.uf`. -/
  | delay (delayUus : Nat) (delayDtu : Nat) (uf : Bool)
  /-- RXTMO (R180): `out.totalUus`, `out.timeoutDtu`, `out.uf`. -/
  | timeout (totalUus : Nat) (timeoutDtu : Nat) (uf : Bool)
  /-- UUS2DTU, US2DTU (R186, R187): `out.dtu`. -/
  | dtu (x : Nat)
  /-- DTU2US (R188): `out.us`. -/
  | us (x : Int)
  /-- DTUDIFF (R189): `out.diff`. -/
  | diff (x : Int)
  /-- CXSTART (R203): `out.delayed`, `out.date`, `out.wait`. -/
  | schedule (delayed : Bool) (date : Word32) (wait : Nat)
  deriving DecidableEq, Repr

/-- The one result of a command (R251). -/
structure Result where
  code : Code
  out : Outputs
  deriving DecidableEq, Repr

/-! ## Events -/

/-- The events of the history H (R56): one per collaborator call, with the reply or outcome the collaborator gave. -/
inductive Event where
  | spiWrite (h : List Byte) (b : List Byte) (outcome : Ack)
  | spiWriteCrc (h : List Byte) (b : List Byte) (c : Byte) (outcome : Ack)
  | spiRead (h : List Byte) (n : Nat) (reply : Option (List Byte))
  | gpioSet (mask : Word32) (value : Word32) (outcome : Ack)
  | gpioConfig (mask : Word32) (outcome : Ack)
  | devTime (value : Option Word32)
  | sleep (us : Nat)
  deriving DecidableEq, Repr

/-! ## The record S -/

/-- The arbiter's state (R24, R30). -/
inductive Phase where
  | idle | armed
  deriving DecidableEq, Repr

/-- The record S of R24. -/
structure Record where
  crcWriteMode : Bool
  spiRate : SpiRate
  cxPin : Option Nat
  cxActiveLevel : BitVec 1
  cxLastNow : Option Word32
  cxPhase : Phase
  deriving DecidableEq, Repr

/-- S after reset (R24, R280). -/
def Record.reset : Record where
  crcWriteMode := false
  spiRate := .slow
  cxPin := none
  cxActiveLevel := 1#1
  cxLastNow := none
  cxPhase := .idle

/-- What belongs to one device (R39: instances share nothing but the constant tables): its record S, its history H, the
last result its host received, its parameters, the answers its collaborators will give, and the levels and directions
(1 = output) of its GPIO collaborator's pins. -/
structure Session where
  regs : Record
  events : List Event
  result : Option Result
  params : Params
  answers : Answers
  gpio : Word32
  gpioDir : Word32
  deriving DecidableEq, Repr

/-- No answer is fixed and none has been given. -/
def Answers.fresh : Answers := ⟨⟨[], 0⟩, ⟨[], 0⟩, ⟨[], 0⟩, ⟨[], 0⟩⟩

/-- Device `k` when it has run nothing: S as R280 says, H empty, the rest any value (R282). -/
def Session.fresh (k : Nat) : Session :=
  ⟨Record.reset, [], none, Config.params k, Answers.fresh, Config.gpioAtReset k, Config.gpioDirAtReset k⟩

/-! ## The state -/

/-- The state. `tables` are the constant tables, shared by all devices. `regs`, `events`, `result`, `params`, `answers`,
`gpio` and `gpioDir` are those of the selected device, whose handle is `handle`; `parked` holds those of the others (a
device not listed is fresh). `inputs` is what the host will send. -/
structure State where
  tables : Tables
  handle : Nat
  regs : Record
  events : List Event
  result : Option Result
  params : Params
  answers : Answers
  gpio : Word32
  gpioDir : Word32
  parked : List (Nat × Session)
  inputs : List HostInput
  deriving DecidableEq, Repr

/-- The machine right after reset: S as R280 says, H empty, no input, nothing known of the collaborators (R282). -/
def State.reset : State where
  tables := Config.tables
  handle := 0
  regs := Record.reset
  events := []
  result := none
  params := Config.params 0
  answers := Answers.fresh
  gpio := Config.gpioAtReset 0
  gpioDir := Config.gpioDirAtReset 0
  parked := []
  inputs := []

/-! ## Faults and refusals -/

/-- The faults of R253: a caller contract was broken and the run ends. All are the spec's own verdicts; stopping where
real hardware may go on is safe. -/
inductive Fault where
  /-- F_BUDGET_UNDERFLOW: RXDLY with base < sub_plen under UNDERFLOW_POLICY = fault (R179). Safe. -/
  | budgetUnderflow
  /-- F_RANGE_OVERFLOW: RXDLY, RXTMO, UUS2DTU or US2DTU with a result above 2^32 - 1 (R170). Safe. -/
  | rangeOverflow
  /-- F_COEX_REENTRY: CXSTART with a pin configured while Armed (R202). Safe. -/
  | coexReentry
  /-- F_CONFIG_WHILE_ARMED: CXCFG while Armed (R230). Safe. -/
  | configWhileArmed
  deriving DecidableEq, Repr

/-- The refusals. The run ends; this is the refusal mark of R254, never cleared. Stopping is safe. -/
inductive Refusal where
  /-- Raised by an arm of exec that has no meaning yet; no arm is left so. Safe. -/
  | notModelled (mnemonic : String)
  /-- Raised by step on a command word whose opcode R80 does not assign (R81, R254). Safe. -/
  | unassignedOpcode (opcode : Nat)
  /-- Raised by step on a command word whose ports are not those of its rule (log entry 8). Safe. -/
  | malformedPorts (opcode : Nat)
  /-- Raised by step on a transaction without a whole header (R75). Safe. -/
  | truncatedHeader
  /-- Raised by step on a transaction whose header selects no mode (R76). Safe. -/
  | reservedHeader
  /-- Raised by step on a transaction with a body or length its mode does not have (R74, log entry 18). Safe. -/
  | malformedTransaction (mode : Mode)
  deriving DecidableEq, Repr

end Sys2Proof.Machine
end

