-- ==== Sys2Proof/Machine/Operands.lean ====
section
/-! DEFINITION. What a command computes from its operands alone: the checks on a transaction's operands
(40_transport_codec R113, R115, R116), the timestamp bytes (41_timestamp_codec), the terms of the timing budgets and
the unit conversions (42_timing_budget), the arbiter's plan (43_coex_arbiter R203), the parameter constraints (R7). -/

namespace Sys2Proof.Machine

/-! ## Results -/

/-- Ok with its outputs (R251). -/
def Result.done (out : Outputs) : Result := ⟨.ok, out⟩

/-- An error result, which carries no outputs (R251). -/
def Result.err (c : Code) : Result := ⟨c, .none⟩

/-! ## Transactions -/

/-- `id > 31`, `mode > 7` or `sub > 127` (the first check of R108, R115 and R116); gives the mode. -/
def checkFields (id : Nat) (sub : Option Nat) (mode : Nat) : Except Code Mode :=
  if idInRange id && subInRange sub then
    match modeOfCode mode with
    | some m => .ok m
    | none => .error .argRange
  else .error .argRange

/-- The sub-address is present exactly in the full and masked modes (R74, R108: `E_MODE` otherwise). -/
def subMatches (m : Mode) (sub : Option Nat) : Bool := modeIsLong m == sub.isSome

/-- The header of a mode with fields whose range has been checked. -/
def hdr (id : Nat) (sub : Option Nat) (m : Mode) : List Byte :=
  encodeHeader m id (sub.getD 0)

/-- The write modes of WFRAME (R115). -/
def isWriteMode : Mode → Bool
  | .fc => false
  | .sr => false
  | .sw => true
  | .fr => false
  | .fw => true
  | .mw8 => true
  | .mw16 => true
  | .mw32 => true

/-- The read modes of RFRAME (R116). -/
def isReadMode : Mode → Bool
  | .fc => false
  | .sr => true
  | .sw => false
  | .fr => true
  | .fw => false
  | .mw8 => false
  | .mw16 => false
  | .mw32 => false

/-- The body-length rule R113 for a mode that sends a body, and "no body" for the others (R118). -/
def bodyLengthOk (maxBody : Nat) (m : Mode) (n : Nat) : Bool :=
  match m with
  | .fc => n == 0
  | .sr => n == 0
  | .fr => n == 0
  | .sw => decide (1 ≤ n) && decide (n ≤ maxBody)
  | .fw => decide (1 ≤ n) && decide (n ≤ maxBody)
  | .mw8 => n == 2
  | .mw16 => n == 4
  | .mw32 => n == 8

/-- The checks of WFRAME, in its order (R115); gives the header and body to send. -/
def checkWrite (maxBody id : Nat) (sub : Option Nat) (mode : Nat) (body : List Nat) :
    Except Code (List Byte × List Byte) :=
  match checkFields id sub mode with
  | .error c => .error c
  | .ok m =>
    if !areBytes body then .error .argRange
    else if !isWriteMode m then .error .mode
    else if !subMatches m sub then .error .mode
    else if !bodyLengthOk maxBody m body.length then .error .length
    else .ok (hdr id sub m, toBytes body)

/-- The checks of RFRAME, in its order (R116); gives the header to send. -/
def checkRead (maxBody id : Nat) (sub : Option Nat) (mode n : Nat) : Except Code (List Byte) :=
  match checkFields id sub mode with
  | .error c => .error c
  | .ok m =>
    if !isReadMode m then .error .mode
    else if !subMatches m sub then .error .mode
    else if n < 1 then .error .length
    else if maxBody < n then .error .length
    else .ok (hdr id sub m)

/-- The code of DECHDR's error (R109). -/
def headerCode : HeaderError → Code
  | .truncated => .hdrTruncated
  | .reserved => .hdrReserved

/-- DECHDR (R109). -/
def decodeResult (bytes : List Byte) : Result :=
  match decodeHeader bytes with
  | .error e => .err (headerCode e)
  | .ok h => .done (.header h.id h.sub h.mode h.hlen)

/-- The verdicts of CHKW after the header, for a frame of which `tail` bytes (0 or 1) are its CRC (R118). -/
def checkBody (maxBody : Nat) (frame : List Byte) (h : Header) (tail : Nat) : Result :=
  if frame.length < h.hlen + tail then .err .length
  else
    let body := (frame.take (frame.length - tail)).drop h.hlen
    if tail = 1 ∧ crc8 body (crc8 (frame.take h.hlen) 0#8) ≠ frame.getD (frame.length - 1) 0#8 then .err .crcMismatch
    else if bodyLengthOk maxBody h.mode body.length then
      .done (.received h.id h.sub h.mode body)
    else .err .length

/-- CHKW (R118). -/
def checkFrame (maxBody : Nat) (fastcmdCrc : Bool) (frame : List Byte) (crc : Bool) : Result :=
  match decodeHeader frame with
  | .error e => .err (headerCode e)
  | .ok h =>
    if isReadMode h.mode then .err .mode
    else checkBody maxBody frame h (if crc && (decide (h.mode ≠ .fc) || fastcmdCrc) then 1 else 0)

/-! ## Timestamps -/

/-- `pack_le(v, w)` (R150): byte k is bits 8k+7 down to 8k of v; higher bits are dropped. -/
def packLe (v w : Nat) : List Byte := (List.range w).map (fun k => BitVec.ofNat 8 (v >>> (8 * k)))

/-- `unpack_le(bytes)` (R151): the byte at index 0 is the least significant. -/
def unpackLe : List Byte → Nat
  | [] => 0
  | b :: bs => b.toNat + 256 * unpackLe bs

/-! ## Power boost -/

/-- `q(x, s)`: the nearest entry, an exact half going to the larger index (R173). -/
def nearestIndex (x s : Nat) : Nat := (2 * x + s) / (2 * s)

/-- Entry `i` of a boost table (R32). -/
def boostEntry (lut : List Byte) (i : Nat) : Byte := lut.getD i 0#8

/-- PBOOST by the regions of R174 (R175). -/
def powerBoost (t : Tables) (d : Nat) : Byte :=
  if 1000 ≤ d then 0#8
  else if 200 < d then boostEntry t.lut1 (nearestIndex (1000 - d) 25)
  else if 70 ≤ d then boostEntry t.lut2 (nearestIndex (200 - d) 10)
  else boostEntry t.lut2 13

/-! ## Timing budgets -/

/-- The operands of RXDLY and RXTMO are legal (R36, R82). -/
def shapeLegal (base plen : Nat) (rate : DataRate) (sts : Nat) : Bool :=
  isU32 base && legalPlen plen && legalRate rate && legalSts sts

/-- `sub_plen` of R176: 4096 subtracts as much as 2048, which is not to be fixed (R298, C5). -/
def subPlen (plen : Nat) : Nat := if plen = 4096 then 2048 else plen

/-- `pen_plen` of R177: max(0, p - 128). -/
def penPlen (plen : Nat) : Nat := plen - 128

/-- The STS length code c of R178. -/
def stsCode : Nat → Option Nat
  | 32 => some 0
  | 64 => some 1
  | 128 => some 2
  | 256 => some 3
  | 512 => some 4
  | 1024 => some 5
  | 2048 => some 6
  | _ => none

/-- `sts_term` of R178: 8·2^(c+2) when STS is on, 0 when it is off. -/
def stsTerm (sts : Nat) : Nat :=
  match stsCode sts with
  | some c => 8 * 2 ^ (c + 2)
  | none => 0

/-- `rate_pen` of R181. -/
def ratePen : DataRate → Nat
  | .r850k => 200
  | .r6m8 => 0
  | .other _ => 0

/-- The turn-on delay in UUS (R179): subtract, saturate at zero, then add the STS term. -/
def turnOnUus (base plen sts : Nat) : Nat :=
  (if underflows base (subPlen plen) then 0 else base - subPlen plen) + stsTerm sts

/-- The timeout in UUS (R180), with the fixed margin 500. -/
def timeoutUus (base plen : Nat) (rate : DataRate) (sts : Nat) : Nat :=
  base + ratePen rate + penPlen plen + 500 + stsTerm sts

/-! ## Conversions -/

/-- `uus_to_dtu` before its range check (R186). -/
def uusToDtu (p : Params) (u : Nat) : Nat := u * p.uusToDtuK / 256

/-- `us_to_dtu` before its range check (R187). -/
def usToDtu (p : Params) (us : Nat) : Nat := us * p.dtuPerUsNum / p.dtuPerUsDen

/-- `dtu_to_us` (R188): rounds toward zero. -/
def dtuToUs (p : Params) (d : Int) : Int :=
  if 0 ≤ d then Int.ofNat (d.natAbs * p.dtuPerUsDen / p.dtuPerUsNum)
  else -Int.ofNat (d.natAbs * p.dtuPerUsDen / p.dtuPerUsNum)

/-- `dtu_diff` (R189): the signed difference of two device times. -/
def dtuDiff (a b : Word32) : Int := (a - b).toInt

/-! ## The arbiter -/

/-- `T = COEX_TIME_US + COEX_MARGIN_US` (43_coex_arbiter). -/
def coexTotal (p : Params) : Nat := p.coexTimeUs + p.coexMarginUs

/-- The date and wait CXSTART computes from the device time it read (R203). DEDUCED (log entry 29): the wait is the exact
number that R203 computes and R205 states, also where it exceeds the u32 of its port, which a ratio below 1/2 DTU per µs
allows; R203 and R253 give CXSTART no fault for it. -/
def coexPlan (p : Params) (delayed : Bool) (date now : Word32) : Word32 × Nat :=
  if delayed then
    (date, if dtuToUs p (dtuDiff date now) ≤ Int.ofNat (coexTotal p) then 0
      else (dtuToUs p (dtuDiff date now) - Int.ofNat (coexTotal p)).toNat)
  else (now + BitVec.ofNat 32 (usToDtu p (coexTotal p)), 0)

/-- `1 << p` as a GPIO mask (R203). -/
def pinMask (pin : Nat) : Word32 := 1#32 <<< pin

/-- A level at bit p (R203). -/
def pinValue (pin : Nat) (level : BitVec 1) : Word32 := level.setWidth 32 <<< pin

/-! ## The parameters -/

/-- The constraints the parameters of a device meet (R6, R7). -/
abbrev Params.Ok (p : Params) : Prop :=
  8 ≤ p.maxBody ∧ 0 < p.uusToDtuK ∧ 0 < p.dtuPerUsNum ∧ 0 < p.dtuPerUsDen ∧
    0 < coexTotal p ∧ 1 ≤ usToDtu p (coexTotal p) ∧ usToDtu p (coexTotal p) ≤ 2147483647 ∧ 1 ≤ p.npins ∧ p.npins ≤ 32

end Sys2Proof.Machine
end

