-- ==== Sys2Proof/Machine/Ops.lean ====
section
/-! DEFINITION. The named operations over the state: the collaborator calls of 00_scope R11 with their draws and their
events (20_memory R56), the two kinds of transaction (40_transport_codec R114 to R117), the arbiter's effects
(43_coex_arbiter), the selection of a device (10_state R39) and the start of a session (70_reset_and_hazards R280).
The TTC takes no exception and returns from none (60_exceptions R256, R257): `State.reply` is how every command ends. -/

namespace Sys2Proof.Machine

/-- The outcome of an instruction or a step of this machine. -/
abbrev Answer := Host.Outcome State Fault Refusal

/-! ## Ends and events -/

/-- The number of a result code (the code column of R251), which is what a host is told. -/
def codeNumber : Code → Nat
  | .ok => 0
  | .crcMismatch => 1
  | .shortRead => 2
  | .longRead => 3
  | .hdrTruncated => 4
  | .hdrReserved => 5
  | .argRange => 6
  | .mode => 7
  | .length => 8
  | .hwReject => 9

/-- The command completes with its one result (R251). -/
def State.reply (s : State) (r : Result) : State := { s with result := some r }

/-- Append one event to H (R56). -/
def State.log (s : State) (e : Event) : State := { s with events := s.events ++ [e] }

/-! ## Draws (R11, R20, D28): the next listed answer, or else a free value -/

/-- The next answer of a stream; `free` gives the answers that nothing fixes. -/
def Draws.head {α : Type} (free : Nat → α) (d : Draws α) : α :=
  match d.listed with
  | a :: _ => a
  | [] => free d.drawn

/-- The stream after an answer has been given. -/
def Draws.taken {α : Type} (d : Draws α) : Draws α :=
  match d.listed with
  | _ :: rest => { d with listed := rest }
  | [] => { d with drawn := d.drawn + 1 }

/-- The outcome the SPI collaborator gives to the next write. -/
def State.spiAck (s : State) : Ack := Draws.head (Config.freeAck s.handle) s.answers.spi

/-- The reply the SPI collaborator gives to the next read. -/
def State.spiReply (s : State) : Option (List Byte) := Draws.head (Config.freeReply s.handle) s.answers.read

/-- The outcome the GPIO collaborator gives to the next call. -/
def State.gpioAck (s : State) : GpioAck := Draws.head (Config.freeGpio s.handle) s.answers.gpio

/-- The device time the next `DevTime()` reads, or Fail. -/
def State.devTime (s : State) : Option Word32 := Draws.head (Config.freeTime s.handle) s.answers.time

/-- The SPI write answer has been given. -/
def State.spiTaken (s : State) : State := { s with answers := { s.answers with spi := Draws.taken s.answers.spi } }

/-- The SPI read answer has been given. -/
def State.replyTaken (s : State) : State := { s with answers := { s.answers with read := Draws.taken s.answers.read } }

/-- The GPIO answer has been given. -/
def State.gpioTaken (s : State) : State := { s with answers := { s.answers with gpio := Draws.taken s.answers.gpio } }

/-- The device time has been given. -/
def State.timeTaken (s : State) : State := { s with answers := { s.answers with time := Draws.taken s.answers.time } }

/-! ## Collaborator calls -/

/-- What a GPIO outcome reports to the TTC. -/
def ackOfGpio : GpioAck → Ack
  | .ok => .ok
  | .fail _ => .fail

/-- `SpiWrite(h, b)`: one event; the outcome is `s.spiAck`. -/
def State.spiWrite (s : State) (h b : List Byte) : State := s.spiTaken.log (.spiWrite h b s.spiAck)

/-- `SpiWriteCrc(h, b, c)`: one event; the outcome is `s.spiAck`. -/
def State.spiWriteCrc (s : State) (h b : List Byte) (c : Byte) : State :=
  s.spiTaken.log (.spiWriteCrc h b c s.spiAck)

/-- `SpiRead(h, n)`: one event; the reply is `s.spiReply`. -/
def State.spiRead (s : State) (h : List Byte) (n : Nat) : State := s.replyTaken.log (.spiRead h n s.spiReply)

/-- `DevTime()`: one event; the value is `s.devTime`. -/
def State.readTime (s : State) : State := s.timeTaken.log (.devTime s.devTime)

/-- The bits of `mask` take those of `value`, the others stay (R33). -/
def maskedBits (old mask value : Word32) : Word32 := (old &&& ~~~mask) ||| (value &&& mask)

/-- The register after a GPIO call on the pins of `mask`: the value written, or, on a failure, any value at those pins
(R203, R206, I8). -/
def gpioAfter (old mask value : Word32) : GpioAck → Word32
  | .ok => maskedBits old mask value
  | .fail leaves => maskedBits old mask leaves

/-- `GpioSet(mask, value)`: one event, and the GPIO value register G changes (R33); the outcome is `s.gpioAck`. -/
def State.gpioSet (s : State) (mask value : Word32) : State :=
  ({ s.gpioTaken with gpio := gpioAfter s.gpio mask value s.gpioAck }).log (.gpioSet mask value (ackOfGpio s.gpioAck))

/-- `GpioConfigOut(mask)`: one event, and the pins become outputs (R11); the outcome is `s.gpioAck`. DESIGN CHOICE (log
entry 30): the levels in G are kept, on success and on failure; R230 leaves the level to the GPIO collaborator. -/
def State.gpioConfigOut (s : State) (mask : Word32) : State :=
  ({ s.gpioTaken with gpioDir := gpioAfter s.gpioDir mask mask s.gpioAck }).log
    (.gpioConfig mask (ackOfGpio s.gpioAck))

/-- `Sleep(us)`: one event; made only for a wait above 0 (R203). -/
def State.sleepFor (s : State) (us : Nat) : State := if us = 0 then s else s.log (.sleep us)

/-! ## Writes of the record S -/

def State.setCrcMode (s : State) (on : Bool) : State := { s with regs := { s.regs with crcWriteMode := on } }

def State.setRate (s : State) (r : SpiRate) : State := { s with regs := { s.regs with spiRate := r } }

def State.setPin (s : State) (pin : Option Nat) (level : BitVec 1) : State :=
  { s with regs := { s.regs with cxPin := pin, cxActiveLevel := level } }

def State.setLastNow (s : State) (now : Word32) : State := { s with regs := { s.regs with cxLastNow := some now } }

def State.setPhase (s : State) (p : Phase) : State := { s with regs := { s.regs with cxPhase := p } }

/-! ## Transactions -/

/-- The code of a write's outcome (R115: `E_HW_REJECT` on a failure). -/
def ackCode : Ack → Code
  | .ok => .ok
  | .fail => .hwReject

/-- One write-class transaction (R114, R115): with a CRC byte over header and body, or plain. `out.frame` holds the
frame that was offered, also on a failure. -/
def State.sendFrame (s : State) (h b : List Byte) (withCrc : Bool) : State :=
  if withCrc then
    (s.spiWriteCrc h b (crc8 b (crc8 h 0#8))).reply
      ⟨ackCode s.spiAck, .frame (h ++ b ++ [crc8 b (crc8 h 0#8)])⟩
  else (s.spiWrite h b).reply ⟨ackCode s.spiAck, .frame (h ++ b)⟩

/-- A write with its checks (R102, R104 to R107, R115). -/
def State.writeFrame (s : State) (id : Nat) (sub : Option Nat) (mode : Nat) (body : List Nat) : State :=
  match checkWrite s.params.maxBody id sub mode body with
  | .error c => s.reply (.err c)
  | .ok (h, b) => s.sendFrame h b s.regs.crcWriteMode

/-- A fast command with its check (R100, R117). -/
def State.fastFrame (s : State) (code : Nat) : State :=
  if idInRange code then
    s.sendFrame (hdr code none .fc) [] (s.regs.crcWriteMode && s.params.fastcmdCrc)
  else s.reply (.err .argRange)

/-- The verdict on a reply (R116). -/
def replyResult (n : Nat) : Option (List Byte) → Result
  | none => .err .hwReject
  | some r =>
    if r.length < n then .err .shortRead
    else if n < r.length then .err .longRead
    else .done (.data r)

/-- A read with its checks (R101, R103, R116). -/
def State.readFrame (s : State) (id : Nat) (sub : Option Nat) (mode n : Nat) : State :=
  match checkRead s.params.maxBody id sub mode n with
  | .error c => s.reply (.err c)
  | .ok h => (s.spiRead h n).reply (replyResult n s.spiReply)

/-! ## The arbiter -/

/-- The end of CXSTART once its plan is made (R203): sleep, write the active level, arm on success. -/
def State.driveActive (s : State) (pin : Nat) (date : Word32) (wait : Nat) : State :=
  let slept := s.sleepFor wait
  let driven := slept.gpioSet (pinMask pin) (pinValue pin s.regs.cxActiveLevel)
  match slept.gpioAck with
  | .ok => (driven.setPhase .armed).reply (.done (.schedule true date wait))
  | .fail _ => driven.reply ⟨.hwReject, .schedule true date wait⟩

/-- CXSTART with a pin configured and the phase Idle (R203). -/
def State.arm (s : State) (pin : Nat) (delayed : Bool) (date : Word32) : State :=
  match s.devTime with
  | none => s.readTime.reply (.err .hwReject)
  | some now =>
    (s.readTime.setLastNow now).driveActive pin (coexPlan s.params delayed date now).1
      (coexPlan s.params delayed date now).2

/-- CXSTOP with a pin configured (R206): write the inactive level; the phase is Idle even after a failure. -/
def State.release (s : State) (pin : Nat) : State :=
  ((s.gpioSet (pinMask pin) (pinValue pin (1#1 - s.regs.cxActiveLevel))).setPhase .idle).reply
    ⟨ackCode (ackOfGpio s.gpioAck), .none⟩

/-- CXCFG once its checks have passed (R230): make the pin an output, then record it. -/
def State.configure (s : State) (pin : Option Nat) (level : BitVec 1) : State :=
  match pin with
  | none => (s.setPin none level).reply (.done .none)
  | some p =>
    match s.gpioAck with
    | .ok => ((s.gpioConfigOut (pinMask p)).setPin (some p) level).reply (.done .none)
    | .fail _ => (s.gpioConfigOut (pinMask p)).reply (.err .hwReject)

/-- A pin operand is none or below NPINS (R230). -/
def pinInRange (npins : Nat) : Option Nat → Bool
  | none => true
  | some p => decide (p < npins)

/-! ## Devices (R39, R270) -/

/-- The session listed for a handle; a device not listed is fresh. -/
def lookupSession (k : Nat) : List (Nat × Session) → Session
  | [] => Session.fresh k
  | (j, v) :: rest => if j = k then v else lookupSession k rest

/-- The list without a handle. -/
def eraseSession (k : Nat) (l : List (Nat × Session)) : List (Nat × Session) := l.filter (fun e => e.1 != k)

/-- Put a session into a list that does not hold its handle, in rising order. -/
def insertSession (k : Nat) (v : Session) : List (Nat × Session) → List (Nat × Session)
  | [] => [(k, v)]
  | (j, w) :: rest => if k < j then (k, v) :: (j, w) :: rest else (j, w) :: insertSession k v rest

/-- Store a session in the canonical form: a fresh one is not listed. -/
def parkSession (k : Nat) (v : Session) (l : List (Nat × Session)) : List (Nat × Session) :=
  if v = Session.fresh k then eraseSession k l else insertSession k v (eraseSession k l)

/-- The session of the selected device. -/
def State.current (s : State) : Session := ⟨s.regs, s.events, s.result, s.params, s.answers, s.gpio, s.gpioDir⟩

/-- The session of any device. -/
def State.session (s : State) (k : Nat) : Session := if k = s.handle then s.current else lookupSession k s.parked

/-- Make `v` the selected session under handle `k`. -/
def State.withSession (s : State) (k : Nat) (v : Session) (parked : List (Nat × Session)) : State :=
  { s with
    handle := k
    regs := v.regs
    events := v.events
    result := v.result
    params := v.params
    answers := v.answers
    gpio := v.gpio
    gpioDir := v.gpioDir
    parked := parked }

/-- Select the device a command names (R39): all that is the device's own is swapped in; the tables stay. -/
def State.select (s : State) (k : Nat) : State :=
  if k = s.handle then s
  else s.withSession k (lookupSession k s.parked) (parkSession s.handle s.current (eraseSession k s.parked))

/-- The canonical form of the list of other devices: handles strictly rising, no fresh session listed, the selected
device not listed. -/
abbrev parkedWf (handle : Nat) (l : List (Nat × Session)) : Prop :=
  List.Pairwise (fun a b => a.1 < b.1) l ∧ (∀ e ∈ l, e.2 ≠ Session.fresh e.1) ∧ (∀ e ∈ l, e.1 ≠ handle)

/-- The start of a session (R280, R283): every field of S at its reset value; no collaborator call, so the pins keep
their levels (R282), and H and the parameters are as they were (log entry 15). -/
def State.restart (s : State) : State := { s with regs := Record.reset, result := none }

/-! ## Fetching -/

/-- Take the host's first input off the list. -/
def State.consume (s : State) : State := { s with inputs := s.inputs.tail }

/-- Put a word before the host's other inputs, for the selected device. -/
def State.offer (s : State) (w : HostWord) : State := { s with inputs := .issue s.handle w :: s.inputs }

/-- The refusal of a word that has no instruction (R81, R76). -/
def refusalOf : Reject → Refusal
  | .unassignedOpcode op => .unassignedOpcode op
  | .malformedPorts op => .malformedPorts op
  | .truncatedHeader => .truncatedHeader
  | .reservedHeader => .reservedHeader
  | .malformedTransaction m => .malformedTransaction m

end Sys2Proof.Machine
end

