-- ==== Sys2Proof/Machine/Coex.lean ====
section
/-! DEFINITION. The commands of the coexistence arbiter (43_coex_arbiter R200 to R206, 44_control R230). The order of the
checks is 60_exceptions R255: operand range, then the phase fault, then the collaborator calls. -/

namespace Sys2Proof.Machine

/-- CXCFG (R230). -/
def execCxcfg (pin : Option Nat) (level : Nat) (s : State) : Answer :=
  if !(pinInRange s.params.npins pin && decide (level ≤ 1)) then .next (s.reply (.err .argRange))
  else if s.regs.cxPhase = .armed then .fault .configWhileArmed
  else .next (s.configure pin (BitVec.ofNat 1 level))

/-- CXSTART (R203): the passthrough of R201 without a pin, the fault of R202 while Armed. -/
def execCxstart (delayed : Bool) (date : Nat) (s : State) : Answer :=
  if !isU32 date then .next (s.reply (.err .argRange))
  else
    match s.regs.cxPin with
    | none => .next (s.reply (.done (.schedule delayed (BitVec.ofNat 32 date) 0)))
    | some pin =>
      if s.regs.cxPhase = .armed then .fault .coexReentry
      else .next (s.arm pin delayed (BitVec.ofNat 32 date))

/-- CXSTOP (R206): the passthrough of R201 without a pin; it does not look at the phase. -/
def execCxstop (s : State) : Answer :=
  .next (match s.regs.cxPin with
    | none => s.reply (.done .none)
    | some pin => s.release pin)

end Sys2Proof.Machine
end

