-- ==== Sys2Proof/Machine/Control.lean ====
section
/-! DEFINITION. The configuration commands of the transport codec (44_control R231, R232). -/

namespace Sys2Proof.Machine

/-- SETCRC (R231): no transaction; the far end is switched by the host. -/
def execSetcrc (on : Bool) (s : State) : Answer := .next ((s.setCrcMode on).reply (.done .none))

/-- SETRATE (R232): recorded, and read by no rule (R26). -/
def execSetrate (rate : SpiRate) (s : State) : Answer := .next ((s.setRate rate).reply (.done .none))

end Sys2Proof.Machine
end

