-- ==== Sys2Proof/Machine/Timestamp.lean ====
section
/-! DEFINITION. The commands of the timestamp codec (41_timestamp_codec R150, R151). -/

namespace Sys2Proof.Machine

/-- PACKLE (R150). -/
def execPackle (v w : Nat) (s : State) : Answer :=
  .next (s.reply (if decide (w ≤ 8) && decide (v ≤ u64Max) then .done (.bytes (packLe v w)) else .err .argRange))

/-- UNPACKLE (R151). -/
def execUnpackle (bytes : List Nat) (s : State) : Answer :=
  .next (s.reply (if areBytes bytes && decide (bytes.length ≤ 8) then
    .done (.value (BitVec.ofNat 64 (unpackLe (toBytes bytes)))) else .err .argRange))

end Sys2Proof.Machine
end

