-- ==== Sys2Proof/Machine/Timing.lean ====
section
/-! DEFINITION. The commands of the timing-budget calculator (42_timing_budget R175, R179, R180, R186 to R189). They are
pure: they write the result and nothing else. A u32 operand out of range is E_ARG_RANGE (30_encoding R82). -/

namespace Sys2Proof.Machine

/-- PBOOST (R175). -/
def execPboost (d : Nat) (s : State) : Answer :=
  .next (s.reply (if isU32 d then .done (.boost (powerBoost s.tables d)) else .err .argRange))

/-- RXDLY (R179). -/
def execRxdly (base plen : Nat) (rate : DataRate) (sts : Nat) (s : State) : Answer :=
  if !shapeLegal base plen rate sts then .next (s.reply (.err .argRange))
  else if underflows base (subPlen plen) && s.params.underflowPolicy == .fault then .fault .budgetUnderflow
  else if !fitsU32 (turnOnUus base plen sts) then .fault .rangeOverflow
  else if !fitsU32 (uusToDtu s.params (turnOnUus base plen sts)) then .fault .rangeOverflow
  else .next (s.reply (.done (.delay (turnOnUus base plen sts) (uusToDtu s.params (turnOnUus base plen sts))
    (underflows base (subPlen plen)))))

/-- RXTMO (R180): it subtracts nothing, so `out.uf` is false (C8). -/
def execRxtmo (base plen : Nat) (rate : DataRate) (sts : Nat) (s : State) : Answer :=
  if !shapeLegal base plen rate sts then .next (s.reply (.err .argRange))
  else if !fitsU32 (timeoutUus base plen rate sts) then .fault .rangeOverflow
  else if !fitsU32 (uusToDtu s.params (timeoutUus base plen rate sts)) then .fault .rangeOverflow
  else .next (s.reply (.done (.timeout (timeoutUus base plen rate sts)
    (uusToDtu s.params (timeoutUus base plen rate sts)) false)))

/-- UUS2DTU (R186). -/
def execUus2dtu (u : Nat) (s : State) : Answer :=
  if !isU32 u then .next (s.reply (.err .argRange))
  else if !fitsU32 (uusToDtu s.params u) then .fault .rangeOverflow
  else .next (s.reply (.done (.dtu (uusToDtu s.params u))))

/-- US2DTU (R187). -/
def execUs2dtu (us : Nat) (s : State) : Answer :=
  if !isU32 us then .next (s.reply (.err .argRange))
  else if !fitsU32 (usToDtu s.params us) then .fault .rangeOverflow
  else .next (s.reply (.done (.dtu (usToDtu s.params us))))

/-- DTU2US (R188). -/
def execDtu2us (d : Int) (s : State) : Answer :=
  .next (s.reply (if decide (-2147483648 ≤ d) && decide (d ≤ 2147483647) then .done (.us (dtuToUs s.params d))
    else .err .argRange))

/-- DTUDIFF (R189). -/
def execDtudiff (a b : Nat) (s : State) : Answer :=
  .next (s.reply (if isU32 a && isU32 b then .done (.diff (dtuDiff (BitVec.ofNat 32 a) (BitVec.ofNat 32 b)))
    else .err .argRange))

end Sys2Proof.Machine
end

