-- ==== Sys2Proof/Machine/Transactions.lean ====
section
/-! DEFINITION. The eight wire transactions (40_transport_codec R100 to R107). Each is what its issuing command does in
that mode: one header, one collaborator call, one result (log entry 7). -/

namespace Sys2Proof.Machine

/-- fast-command (R100). -/
def execFastCommand (code : Nat) (s : State) : Answer := .next (s.fastFrame code)

/-- short-read (R101), mode code 1: no sub-address. -/
def execShortRead (id n : Nat) (s : State) : Answer := .next (s.readFrame id none 1 n)

/-- short-write (R102), mode code 2: no sub-address. -/
def execShortWrite (id : Nat) (body : List Nat) (s : State) : Answer := .next (s.writeFrame id none 2 body)

/-- full-read (R103), mode code 3. -/
def execFullRead (id : Nat) (sub : Option Nat) (n : Nat) (s : State) : Answer := .next (s.readFrame id sub 3 n)

/-- full-write (R104), mode code 4. -/
def execFullWrite (id : Nat) (sub : Option Nat) (body : List Nat) (s : State) : Answer :=
  .next (s.writeFrame id sub 4 body)

/-- masked-write-8 (R105), mode code 5: the body is the AND mask, then the OR mask. -/
def execMaskedWrite8 (id : Nat) (sub : Option Nat) (body : List Nat) (s : State) : Answer :=
  .next (s.writeFrame id sub 5 body)

/-- masked-write-16 (R106), mode code 6. -/
def execMaskedWrite16 (id : Nat) (sub : Option Nat) (body : List Nat) (s : State) : Answer :=
  .next (s.writeFrame id sub 6 body)

/-- masked-write-32 (R107), mode code 7. -/
def execMaskedWrite32 (id : Nat) (sub : Option Nat) (body : List Nat) (s : State) : Answer :=
  .next (s.writeFrame id sub 7 body)

end Sys2Proof.Machine
end

