-- ==== Sys2Proof/Machine/Transport.lean ====
section
/-! DEFINITION. The commands of the transport codec (40_transport_codec R108, R109, R112, R115 to R118). -/

namespace Sys2Proof.Machine

/-- ENCHDR (R108). -/
def execEnchdr (id : Nat) (sub : Option Nat) (mode : Nat) (s : State) : Answer :=
  .next (s.reply (match checkFields id sub mode with
    | .error c => .err c
    | .ok m => if subMatches m sub then .done (.hdr (hdr id sub m)) else .err .mode))

/-- DECHDR (R109). -/
def execDechdr (bytes : List Nat) (s : State) : Answer :=
  .next (s.reply (if areBytes bytes then decodeResult (toBytes bytes) else .err .argRange))

/-- CRC8 (R112). -/
def execCrc8 (bytes : List Nat) (init : Nat) (s : State) : Answer :=
  .next (s.reply (if areBytes bytes && decide (init ≤ 255) then .done (.crc (crc8 (toBytes bytes) (BitVec.ofNat 8 init)))
    else .err .argRange))

/-- WFRAME (R115). -/
def execWframe (id : Nat) (sub : Option Nat) (mode : Nat) (body : List Nat) (s : State) : Answer :=
  .next (s.writeFrame id sub mode body)

/-- RFRAME (R116). -/
def execRframe (id : Nat) (sub : Option Nat) (mode n : Nat) (s : State) : Answer := .next (s.readFrame id sub mode n)

/-- FCMD (R117). -/
def execFcmd (code : Nat) (s : State) : Answer := .next (s.fastFrame code)

/-- CHKW (R118): the far end's check. It reads no persistent state. -/
def execChkw (frame : List Nat) (crc : Bool) (s : State) : Answer :=
  .next (s.reply (if areBytes frame then checkFrame s.params.maxBody s.params.fastcmdCrc (toBytes frame) crc
    else .err .argRange))

end Sys2Proof.Machine
end

