-- ==== Sys2Proof/Machine/Dispatch.lean ====
section
/-! DEFINITION. exec: one arm per instruction, each a direct call of its meaning. -/

namespace Sys2Proof.Machine

def exec (i : Instr) (s : State) : Host.Outcome State Fault Refusal :=
  match i with
  -- the wire transactions (R100 to R107)
  | .fastCommand code => Sys2Proof.Machine.execFastCommand code s
  | .shortRead id n => Sys2Proof.Machine.execShortRead id n s
  | .shortWrite id body => Sys2Proof.Machine.execShortWrite id body s
  | .fullRead id sub n => Sys2Proof.Machine.execFullRead id sub n s
  | .fullWrite id sub body => Sys2Proof.Machine.execFullWrite id sub body s
  | .maskedWrite8 id sub body => Sys2Proof.Machine.execMaskedWrite8 id sub body s
  | .maskedWrite16 id sub body => Sys2Proof.Machine.execMaskedWrite16 id sub body s
  | .maskedWrite32 id sub body => Sys2Proof.Machine.execMaskedWrite32 id sub body s
  -- the transport codec
  | .enchdr id sub mode => Sys2Proof.Machine.execEnchdr id sub mode s
  | .dechdr bytes => Sys2Proof.Machine.execDechdr bytes s
  | .crc8 bytes init => Sys2Proof.Machine.execCrc8 bytes init s
  | .wframe id sub mode body => Sys2Proof.Machine.execWframe id sub mode body s
  | .rframe id sub mode n => Sys2Proof.Machine.execRframe id sub mode n s
  | .fcmd code => Sys2Proof.Machine.execFcmd code s
  | .chkw frame crc => Sys2Proof.Machine.execChkw frame crc s
  -- the timestamp codec
  | .packle v w => Sys2Proof.Machine.execPackle v w s
  | .unpackle bytes => Sys2Proof.Machine.execUnpackle bytes s
  -- the timing-budget calculator
  | .pboost d => Sys2Proof.Machine.execPboost d s
  | .rxdly base plen rate sts => Sys2Proof.Machine.execRxdly base plen rate sts s
  | .rxtmo base plen rate sts => Sys2Proof.Machine.execRxtmo base plen rate sts s
  | .uus2dtu u => Sys2Proof.Machine.execUus2dtu u s
  | .us2dtu us => Sys2Proof.Machine.execUs2dtu us s
  | .dtu2us d => Sys2Proof.Machine.execDtu2us d s
  | .dtudiff a b => Sys2Proof.Machine.execDtudiff a b s
  -- the coexistence arbiter
  | .cxcfg pin level => Sys2Proof.Machine.execCxcfg pin level s
  | .cxstart delayed date => Sys2Proof.Machine.execCxstart delayed date s
  | .cxstop => Sys2Proof.Machine.execCxstop s
  -- configuration
  | .setcrc on => Sys2Proof.Machine.execSetcrc on s
  | .setrate rate => Sys2Proof.Machine.execSetrate rate s

end Sys2Proof.Machine
end

