-- ==== Sys2Proof/Machine/Step.lean ====
section
/-! DEFINITION. One step: the machine executes the host's next input (10_state R20, R22). -/

namespace Sys2Proof.Machine

/-- Execute a word: its instruction, or the refusal of a word that has none (R81, R254). -/
def runWord (w : HostWord) (s : State) : Host.Outcome State Fault Refusal :=
  match decode w with
  | .ok i => exec i s
  | .error r => .refused (refusalOf r)

/-- One step. With no input the TTC waits for the host (R281). -/
def step (s : State) : Host.Outcome State Fault Refusal :=
  match s.inputs with
  | [] => .next s
  | .reset k :: _ => .next ((s.consume.select k).restart)
  | .issue k w :: _ => runWord w (s.consume.select k)

/-- The state with a table word as the host's next input for the selected device (log entries 6 and 16). -/
def State.withFetchWord (s : State) (nbits w : Nat) : State := s.offer (tableWord nbits w)

end Sys2Proof.Machine
end

