-- ==== Sys2Proof/Machine/Pseudo.lean ====
section
/-! DEFINITION. The pseudo-commands (30_encoding R84), which expand before execution, and the written form of a command
(R83). The machine executes neither: a host word is already the expanded command. -/

namespace Sys2Proof.Machine

/-- The AND mask then the OR mask, each of `w` bytes, little-endian (R55, R84). -/
def maskBody (w andMask orMask : Nat) : List Nat := ofBytes (packLe andMask w ++ packLe orMask w)

/-- The command a pseudo-command stands for (R84). -/
def expand : Pseudo → Instr
  | .read id sub n => if sub = 0 then .rframe id none 1 n else .rframe id (some sub) 3 n
  | .write id sub body => if sub = 0 then .wframe id none 2 body else .wframe id (some sub) 4 body
  | .modify8 id sub a o => .wframe id (some sub) 5 (maskBody 1 a o)
  | .modify16 id sub a o => .wframe id (some sub) 6 (maskBody 2 a o)
  | .modify32 id sub a o => .wframe id (some sub) 7 (maskBody 4 a o)

/-! ## The written form (R83) -/

/-- One hexadecimal digit. -/
def hexDigit (n : Nat) : Char := "0123456789ABCDEF".toList.getD (n % 16) '0'

/-- The hexadecimal digits of a number, most significant first, before `acc`; at most `fuel` digits. -/
def hexDigits : Nat → Nat → List Char → List Char
  | 0, _, acc => acc
  | fuel + 1, n, acc => if n < 16 then hexDigit n :: acc else hexDigits fuel (n / 16) (hexDigit n :: acc)

/-- A number as R83 writes it, in hexadecimal. -/
def asmNat (n : Nat) : String := "0x" ++ String.ofList (hexDigits (n + 1) n [])

/-- A signed number. -/
def asmInt (d : Int) : String := if d < 0 then "-" ++ asmNat d.natAbs else asmNat d.natAbs

/-- One byte of a sequence: two digits. A value that is no byte is written as a number. -/
def asmByte (b : Nat) : String := if b ≤ 255 then String.ofList [hexDigit (b / 16), hexDigit b] else asmNat b

/-- A byte sequence in square brackets. -/
def asmBytes (bs : List Nat) : String := "[" ++ " ".intercalate (bs.map asmByte) ++ "]"

/-- An optional number: `none` is the absent one. -/
def asmOpt : Option Nat → String
  | none => "none"
  | some x => asmNat x

/-- A Boolean. -/
def asmBool : Bool → String
  | true => "true"
  | false => "false"

/-- A mode by its name; a code that names no mode is written as a number. -/
def asmMode (code : Nat) : String :=
  match modeOfCode code with
  | some .fc => "FC"
  | some .sr => "SR"
  | some .sw => "SW"
  | some .fr => "FR"
  | some .fw => "FW"
  | some .mw8 => "MW8"
  | some .mw16 => "MW16"
  | some .mw32 => "MW32"
  | none => asmNat code

/-- A data rate. DESIGN CHOICE (log entry 28): R83 and the vectors write the two legal rates only; a value that is no legal
rate is written as a hexadecimal number. -/
def asmRate : DataRate → String
  | .r6m8 => "R6M8"
  | .r850k => "R850K"
  | .other code => asmNat code

/-- An SPI clock rate. -/
def asmSpiRate : SpiRate → String
  | .slow => "slow"
  | .fast => "fast"

/-- A mnemonic and its operands, separated by commas. -/
def asmLine (mnemonic : String) (operands : List String) : Option String :=
  some (if operands.isEmpty then mnemonic else mnemonic ++ " " ++ ", ".intercalate operands)

/-- The written form of a command (R83); R83 gives a wire transaction none. -/
def asm : Instr → Option String
  | .fastCommand _ => none
  | .shortRead _ _ => none
  | .shortWrite _ _ => none
  | .fullRead _ _ _ => none
  | .fullWrite _ _ _ => none
  | .maskedWrite8 _ _ _ => none
  | .maskedWrite16 _ _ _ => none
  | .maskedWrite32 _ _ _ => none
  | .enchdr id sub mode => asmLine "ENCHDR" [asmNat id, asmOpt sub, asmMode mode]
  | .dechdr bytes => asmLine "DECHDR" [asmBytes bytes]
  | .crc8 bytes init => asmLine "CRC8" [asmBytes bytes, asmNat init]
  | .wframe id sub mode body => asmLine "WFRAME" [asmNat id, asmOpt sub, asmMode mode, asmBytes body]
  | .rframe id sub mode n => asmLine "RFRAME" [asmNat id, asmOpt sub, asmMode mode, asmNat n]
  | .fcmd code => asmLine "FCMD" [asmNat code]
  | .chkw frame crc => asmLine "CHKW" [asmBytes frame, asmBool crc]
  | .packle v w => asmLine "PACKLE" [asmNat v, asmNat w]
  | .unpackle bytes => asmLine "UNPACKLE" [asmBytes bytes]
  | .pboost d => asmLine "PBOOST" [asmNat d]
  | .rxdly base plen rate sts => asmLine "RXDLY" [asmNat base, asmNat plen, asmRate rate, asmNat sts]
  | .rxtmo base plen rate sts => asmLine "RXTMO" [asmNat base, asmNat plen, asmRate rate, asmNat sts]
  | .uus2dtu u => asmLine "UUS2DTU" [asmNat u]
  | .us2dtu us => asmLine "US2DTU" [asmNat us]
  | .dtu2us d => asmLine "DTU2US" [asmInt d]
  | .dtudiff a b => asmLine "DTUDIFF" [asmNat a, asmNat b]
  | .cxcfg pin level => asmLine "CXCFG" [asmOpt pin, asmNat level]
  | .cxstart delayed date => asmLine "CXSTART" [asmBool delayed, asmNat date]
  | .cxstop => asmLine "CXSTOP" []
  | .setcrc on => asmLine "SETCRC" [asmBool on]
  | .setrate rate => asmLine "SETRATE" [asmSpiRate rate]

end Sys2Proof.Machine
end

