-- ==== Sys2Proof/Safety.lean ====
section
/-! DEFINITION. What the claims are about: the caller contracts whose breach is a fault (60_exceptions R253), the
invariant of the machine, and the footprints of the commands. -/

namespace Sys2Proof.Machine

/-- The instruction answers a next state: it neither faults nor is refused. -/
def Completes (i : Instr) (s : State) : Prop := ∃ t, exec i s = .next t

/-- The caller's contract of R253, for each instruction: where it is kept the instruction completes. Only RXDLY, RXTMO,
UUS2DTU, US2DTU, CXCFG and CXSTART have one; it is asked only of operands in range, since a range error comes first
(R255). -/
def ContractKept (i : Instr) (s : State) : Prop :=
  match i with
  | .rxdly base plen rate sts => shapeLegal base plen rate sts = true →
      (s.params.underflowPolicy = .fault → subPlen plen ≤ base) ∧ turnOnUus base plen sts ≤ u32Max ∧
        uusToDtu s.params (turnOnUus base plen sts) ≤ u32Max
  | .rxtmo base plen rate sts => shapeLegal base plen rate sts = true →
      timeoutUus base plen rate sts ≤ u32Max ∧ uusToDtu s.params (timeoutUus base plen rate sts) ≤ u32Max
  | .uus2dtu u => u ≤ u32Max → uusToDtu s.params u ≤ u32Max
  | .us2dtu us => us ≤ u32Max → usToDtu s.params us ≤ u32Max
  | .cxcfg pin level => pinInRange s.params.npins pin = true → level ≤ 1 → s.regs.cxPhase = .idle
  | .cxstart _ date => date ≤ u32Max → s.regs.cxPin ≠ none → s.regs.cxPhase = .idle
  | _ => True

/-- What a device satisfies: its parameters are legal (R7), the pin is below NPINS (R24), only a configured arbiter is Armed
(R200), and the remembered device time was read (R29: it is in H). -/
abbrev Session.Ok (v : Session) : Prop :=
  Params.Ok v.params ∧ pinInRange v.params.npins v.regs.cxPin = true ∧ (v.regs.cxPhase = .armed → v.regs.cxPin ≠ none) ∧
    (∀ now, v.regs.cxLastNow = some now → Event.devTime (some now) ∈ v.events)

/-- The invariant of the machine: the tables are legal (R172), every session is Ok, and the list of the other
devices is in its canonical form. -/
abbrev State.Inv (s : State) : Prop :=
  Tables.Ok s.tables ∧ Session.Ok s.current ∧ (∀ e ∈ s.parked, Session.Ok e.2) ∧
    parkedWf s.handle s.parked

/-- `t` differs from `s` at most in H, in the collaborators' answers used up and in the result: the footprint of a
transaction. -/
def OnlyTransactionTraces (s t : State) : Prop :=
  t.tables = s.tables ∧ t.params = s.params ∧ t.handle = s.handle ∧ t.regs = s.regs ∧ t.parked = s.parked ∧ t.inputs = s.inputs ∧
    t.gpio = s.gpio ∧ t.gpioDir = s.gpioDir

/-- The number of SPI collaborator calls in a history. -/
def spiCalls (h : List Event) : Nat :=
  (h.filter (fun e => match e with
    | .spiWrite _ _ _ => true
    | .spiWriteCrc _ _ _ _ => true
    | .spiRead _ _ _ => true
    | _ => false)).length

/-- The commands that are functions of their operands (and of the parameters): the codec functions, the far end's check,
the timestamp codec and the timing-budget calculator. -/
def isPure : Instr → Bool
  | .fastCommand _ => false
  | .shortRead _ _ => false
  | .shortWrite _ _ => false
  | .fullRead _ _ _ => false
  | .fullWrite _ _ _ => false
  | .maskedWrite8 _ _ _ => false
  | .maskedWrite16 _ _ _ => false
  | .maskedWrite32 _ _ _ => false
  | .enchdr _ _ _ => true
  | .dechdr _ => true
  | .crc8 _ _ => true
  | .wframe _ _ _ _ => false
  | .rframe _ _ _ _ => false
  | .fcmd _ => false
  | .chkw _ _ => true
  | .packle _ _ => true
  | .unpackle _ => true
  | .pboost _ => true
  | .rxdly _ _ _ _ => true
  | .rxtmo _ _ _ _ => true
  | .uus2dtu _ => true
  | .us2dtu _ => true
  | .dtu2us _ => true
  | .dtudiff _ _ => true
  | .cxcfg _ _ => false
  | .cxstart _ _ => false
  | .cxstop => false
  | .setcrc _ => false
  | .setrate _ => false

/-- The instructions that make a transaction: the eight wire transactions, WFRAME, RFRAME and FCMD. -/
def isTransaction : Instr → Bool
  | .fastCommand _ => true
  | .shortRead _ _ => true
  | .shortWrite _ _ => true
  | .fullRead _ _ _ => true
  | .fullWrite _ _ _ => true
  | .maskedWrite8 _ _ _ => true
  | .maskedWrite16 _ _ _ => true
  | .maskedWrite32 _ _ _ => true
  | .enchdr _ _ _ => false
  | .dechdr _ => false
  | .crc8 _ _ => false
  | .wframe _ _ _ _ => true
  | .rframe _ _ _ _ => true
  | .fcmd _ => true
  | .chkw _ _ => false
  | .packle _ _ => false
  | .unpackle _ => false
  | .pboost _ => false
  | .rxdly _ _ _ _ => false
  | .rxtmo _ _ _ _ => false
  | .uus2dtu _ => false
  | .us2dtu _ => false
  | .dtu2us _ => false
  | .dtudiff _ _ => false
  | .cxcfg _ _ => false
  | .cxstart _ _ => false
  | .cxstop => false
  | .setcrc _ => false
  | .setrate _ => false

end Sys2Proof.Machine
end

