-- ==== Sys2Proof/Certificates/Slice0/Obligations.lean ====
section
/-! DEFINITION. The statements for the provers, and the terms of the spec they are written in (headers as numbers, the
state after a transaction), independent of how the model computes them. -/

namespace Sys2Proof.Spec

open Sys2Proof.Machine

/-- A one-byte header with W = w, L = 0, ID = id, F = f, as a number (R70). -/
def shortHeader (w id f : Nat) : List Byte := [BitVec.ofNat 8 (128 * w + 2 * id + f)]

/-- HW of a two-byte header with W = w, L = 1, ID = id, SUB = sub, M = m, as a number (R71). -/
def headerWord (w id sub m : Nat) : Nat := 32768 * w + 16384 + 512 * id + 4 * sub + m

/-- The two bytes of HW, byte 0 first (R71: HW = byte0 * 256 + byte1). -/
def longHeader (w id sub m : Nat) : List Byte :=
  [BitVec.ofNat 8 (headerWord w id sub m / 256), BitVec.ofNat 8 (headerWord w id sub m % 256)]

/-- The sub-address operand is none or at most 127 (R82). -/
def SubLegal (sub : Option Nat) : Prop := ∀ x, sub = some x → x ≤ 127

/-- Every element is a byte (R82). -/
def AreBytes (xs : List Nat) : Prop := ∀ x ∈ xs, x ≤ 255

/-- The frame shape is legal (R36). -/
def ShapeLegal (plen : Nat) (rate : DataRate) (sts : Nat) : Prop :=
  plen ∈ [32, 64, 72, 128, 256, 512, 1024, 1536, 2048, 4096] ∧ (rate = .r6m8 ∨ rate = .r850k) ∧
    sts ∈ [0, 32, 64, 128, 256, 512, 1024, 2048]

/-- Every operand of the instruction is in the range R82 gives its port. -/
def OperandsInRange : Instr → Prop
  | .fastCommand code => code ≤ 31
  | .shortRead id _ => id ≤ 31
  | .shortWrite id body => id ≤ 31 ∧ AreBytes body
  | .fullRead id sub _ => id ≤ 31 ∧ SubLegal sub
  | .fullWrite id sub body => id ≤ 31 ∧ SubLegal sub ∧ AreBytes body
  | .maskedWrite8 id sub body => id ≤ 31 ∧ SubLegal sub ∧ AreBytes body
  | .maskedWrite16 id sub body => id ≤ 31 ∧ SubLegal sub ∧ AreBytes body
  | .maskedWrite32 id sub body => id ≤ 31 ∧ SubLegal sub ∧ AreBytes body
  | .enchdr id sub mode => id ≤ 31 ∧ SubLegal sub ∧ mode ≤ 7
  | .dechdr bytes => AreBytes bytes
  | .crc8 bytes init => AreBytes bytes ∧ init ≤ 255
  | .wframe id sub mode body => id ≤ 31 ∧ SubLegal sub ∧ mode ≤ 7 ∧ AreBytes body
  | .rframe id sub mode _ => id ≤ 31 ∧ SubLegal sub ∧ mode ≤ 7
  | .fcmd code => code ≤ 31
  | .chkw frame _ => AreBytes frame
  | .packle v w => v < 2 ^ 64 ∧ w ≤ 8
  | .unpackle bytes => AreBytes bytes ∧ bytes.length ≤ 8
  | .pboost d => d < 2 ^ 32
  | .rxdly base _ _ _ => base < 2 ^ 32
  | .rxtmo base _ _ _ => base < 2 ^ 32
  | .uus2dtu u => u < 2 ^ 32
  | .us2dtu us => us < 2 ^ 32
  | .dtu2us d => -(2 ^ 31) ≤ d ∧ d < 2 ^ 31
  | .dtudiff a b => a < 2 ^ 32 ∧ b < 2 ^ 32
  | .cxcfg _ _ => True
  | .cxstart _ date => date < 2 ^ 32
  | .cxstop => True
  | .setcrc _ => True
  | .setrate _ => True

/-- The command ends with code `c` and no outputs, and has changed nothing else. -/
def failed (s : State) (c : Code) : Answer := .next (s.reply ⟨c, .none⟩)

/-- The command ends with Ok and these outputs, and has changed nothing else. -/
def answered (s : State) (out : Outputs) : Answer := .next (s.reply ⟨.ok, out⟩)

/-- The code a write's outcome gives (R115). -/
def writeCode : Ack → Code
  | .ok => .ok
  | .fail => .hwReject

/-- The state after the transaction of header `h` and body `b` (R114, R115): one collaborator call with its event, and
the frame that was offered; with a CRC byte when `crc`. -/
def sent (s : State) (h b : List Byte) (crc : Bool) : State :=
  if crc then
    (s.spiWriteCrc h b (crc8 (h ++ b) 0#8)).reply ⟨writeCode s.spiAck, .frame (h ++ b ++ [crc8 (h ++ b) 0#8])⟩
  else (s.spiWrite h b).reply ⟨writeCode s.spiAck, .frame (h ++ b)⟩

/-- The result of a read of `n` bytes for a reply (R116). -/
def readResult (n : Nat) (reply : Option (List Byte)) (r : Result) : Prop :=
  (reply = none → r = ⟨.hwReject, .none⟩) ∧
    (∀ d, reply = some d → (d.length < n → r = ⟨.shortRead, .none⟩) ∧ (n < d.length → r = ⟨.longRead, .none⟩) ∧
      (d.length = n → r = ⟨.ok, .data d⟩))

/-- The instruction ends in a state after one read transaction with header `h` for `n` bytes, with its result (R116). -/
def ReadDone (i : Instr) (s : State) (h : List Byte) (n : Nat) : Prop :=
  ∃ r, exec i s = .next ((s.spiRead h n).reply r) ∧ readResult n s.spiReply r

/-- The length rule R113 for the mode with this code. -/
def BodyLegal (maxBody mode n : Nat) : Prop :=
  (mode = 0 → n = 0) ∧ (mode = 2 ∨ mode = 4 → 1 ≤ n ∧ n ≤ maxBody) ∧ (5 ≤ mode → n = 2 ^ (mode - 4))

/-- The header of a write-class mode's code (R74). -/
def WriteHeader (mode id : Nat) (sub : Option Nat) (h : List Byte) : Prop :=
  (mode = 0 ∧ sub = none ∧ h = shortHeader 1 id 1) ∨ (mode = 2 ∧ sub = none ∧ h = shortHeader 1 id 0) ∨
    (∃ x, 4 ≤ mode ∧ mode ≤ 7 ∧ sub = some x ∧ x ≤ 127 ∧ h = longHeader 1 id x (mode - 4))

/-- The CRC byte CHKW expects after these bytes of a frame of the mode, or none (R118). -/
def crcTail (crc : Bool) (s : State) (m : Mode) (bytes : List Byte) : List Byte :=
  if crc = true ∧ (m ≠ .fc ∨ s.params.fastcmdCrc = true) then [crc8 bytes 0#8] else []

/-- Bit `i` of the GPIO register for every pin: pin `p` has `level`, every other pin is as in `old`. -/
def PinDriven (new old : Word32) (p : Nat) (level : Bool) : Prop :=
  ∀ i < 32, new.getLsbD i = if i = p then level else old.getLsbD i

/-- Every pin but `p` is as in `old`. -/
def OtherPinsKept (new old : Word32) (p : Nat) : Prop := ∀ i < 32, i ≠ p → new.getLsbD i = old.getLsbD i

/-- `t` has the same tables, parameters, devices, inputs and SPI answers to come as `s`: what a command of the arbiter leaves. -/
def ArbiterKeeps (s t : State) : Prop :=
  t.tables = s.tables ∧ t.params = s.params ∧ t.handle = s.handle ∧ t.parked = s.parked ∧ t.inputs = s.inputs ∧
    t.answers.spi = s.answers.spi ∧ t.answers.read = s.answers.read

/-- `dtu_to_us` (R188): truncation toward zero, which is what `Int.tdiv` does. -/
def microseconds (p : Params) (d : Int) : Int := Int.tdiv (d * p.dtuPerUsDen) p.dtuPerUsNum

/-- The sum T of the coexistence times (43_coex_arbiter). -/
def total (p : Params) : Nat := p.coexTimeUs + p.coexMarginUs

/-- The date CXSTART returns (R203). -/
def startDate (p : Params) (delayed : Bool) (date : Nat) (now : Word32) : Word32 :=
  if delayed then BitVec.ofNat 32 date else BitVec.ofNat 32 ((now.toNat + total p * p.dtuPerUsNum / p.dtuPerUsDen) % 2 ^ 32)

/-- The wait CXSTART returns (R203, R205). -/
def startWait (p : Params) (delayed : Bool) (date : Nat) (now : Word32) : Nat :=
  if delayed then (microseconds p (BitVec.ofNat 32 date - now).toInt - total p).toNat else 0

end Sys2Proof.Spec

open Sys2Proof Sys2Proof.Machine Sys2Proof.Spec

/-! ## The machine -/

/-- R280: after reset every field of S holds the value of the reset column; a reset that comes between two commands does
the same, whatever the state, and ends in a next state (no fault, no refusal); the tables are as before. -/
def Obligations.ResetGivesEveryFieldItsValue : Prop :=
  (State.reset.regs.crcWriteMode = false ∧ State.reset.regs.spiRate = .slow ∧ State.reset.regs.cxPin = none ∧
    State.reset.regs.cxActiveLevel = 1#1 ∧ State.reset.regs.cxLastNow = none ∧ State.reset.regs.cxPhase = .idle) ∧
  ∀ (s : State) (k : Nat) (rest : List HostInput), s.inputs = .reset k :: rest →
    ∃ t, step s = .next t ∧ t.regs = State.reset.regs ∧ t.tables = s.tables

/-- R282, R283: a reset makes no collaborator call and leaves the level and direction of every pin of its device; H is as
it was. That the device's last result is cleared, and that H and the parameters go on, is the model's own (log entry 15). -/
def Obligations.ResetTouchesNoCollaborator : Prop :=
  ∀ (s : State) (k : Nat) (rest : List HostInput), s.inputs = .reset k :: rest →
    ∃ t, step s = .next t ∧ t.gpio = (s.session k).gpio ∧ t.gpioDir = (s.session k).gpioDir ∧
      t.answers = (s.session k).answers ∧ t.events = (s.session k).events ∧ t.regs.cxPhase = .idle ∧
      t.regs.cxPin = none ∧ t.result = none ∧ t.params = (s.session k).params ∧ t.handle = k ∧ t.inputs = rest

/-- R281: with no command the TTC waits for the host (that waiting is a step which changes nothing is log entry 13). -/
def Obligations.WaitsForTheHost : Prop := ∀ s : State, s.inputs = [] → step s = .next s

/-- R3, R20, R39: a word that decodes is executed, in one step, on the device it names, once it has been taken off the
host's list. -/
def Obligations.StepRunsTheDecodedWord : Prop :=
  ∀ (s : State) (k : Nat) (w : HostWord) (rest : List HostInput) (i : Instr), s.inputs = .issue k w :: rest →
    decode w = .ok i →
    ∃ u, step s = exec i u ∧ u.handle = k ∧ u.inputs = rest ∧ u.current = s.session k ∧
      (∀ j, u.session j = s.session j) ∧ u.tables = s.tables

/-- R81: every opcode that R80 does not list is refused, whatever its ports. -/
def Obligations.UnassignedOpcodesAreRefused : Prop :=
  ∀ (s : State) (k : Nat) (opcode : Byte) (ports : List Port) (rest : List HostInput),
    s.inputs = .issue k (.command opcode ports) :: rest →
    opcode.toNat ∉ [1, 2, 3, 4, 5, 6, 7, 16, 17, 32, 33, 34, 35, 36, 37, 38, 48, 49, 50, 64, 65] →
    step s = .refused (.unassignedOpcode opcode.toNat)

/-- R253, R255: an instruction ends in a next state exactly where the caller's contract of R253 is kept, and no
instruction is refused. -/
def Obligations.FaultsExactlyWhenAContractIsBroken : Prop :=
  ∀ (i : Instr) (s : State), (Completes i s ↔ ContractKept i s) ∧ ∀ r, exec i s ≠ .refused r

/-- The tables are legal, every session is Ok (its parameters legal) and the device list is canonical, at power-on (the parameters without
a default are free legal values, log entry 2). -/
def Obligations.ResetMeetsTheInvariant : Prop := State.reset.Inv

/-- From every state that meets the invariant, a step that answers a next state gives one that meets it. -/
def Obligations.StepKeepsTheInvariant : Prop := ∀ s t : State, s.Inv → step s = .next t → t.Inv

/-- R39, R270: a command or reset of one device leaves every other device as it is: its record, history, last result,
parameters, pins and the answers its collaborators will give; the tables stay, and so do its own parameters (R284). That
pins, parameters and collaborator answers are a device's own is the model's reading of R39 (log entry 14, DEDUCED; unsafe
for two devices wired to one GPIO register). -/
def Obligations.DevicesAreIsolated : Prop :=
  ∀ (s t : State) (k j : Nat) (rest : List HostInput),
    (s.inputs = .reset k :: rest ∨ ∃ w, s.inputs = .issue k w :: rest) → step s = .next t → j ≠ k →
    t.session j = s.session j ∧ t.tables = s.tables ∧ t.params = (s.session k).params ∧ t.handle = k ∧ t.inputs = rest

/-- R56, R57, R59, R251: a command only appends to H, makes at most one SPI call and at most three calls in all, and
returns a result. -/
def Obligations.HistoryOnlyGrows : Prop :=
  ∀ (i : Instr) (s t : State), exec i s = .next t →
    ∃ new, t.events = s.events ++ new ∧ spiCalls new ≤ 1 ∧ new.length ≤ 3 ∧ t.result ≠ none ∧
      t.tables = s.tables ∧ t.params = s.params ∧ t.handle = s.handle ∧ t.parked = s.parked ∧ t.inputs = s.inputs

/-- R12, R256: a command that returns an error has written no field of S, except CXSTART's lastNow and CXSTOP's phase. -/
def Obligations.ErrorsLeaveTheRecord : Prop :=
  ∀ (i : Instr) (s t : State) (c : Code) (out : Outputs), exec i s = .next t → t.result = some ⟨c, out⟩ → c ≠ .ok →
    t.regs = s.regs ∨
      (∃ delayed date now, i = .cxstart delayed date ∧ t.regs = { s.regs with cxLastNow := some now }) ∨
      (i = .cxstop ∧ t.regs = { s.regs with cxPhase := .idle })

/-- R21, R50, R112, R118 and the headers of 41_timestamp_codec and 42_timing_budget: these commands change nothing but
the result, and the result depends on the operands, the parameters and the tables alone. -/
def Obligations.PureCommandsChangeOnlyTheResult : Prop :=
  ∀ (i : Instr) (s t : State), isPure i = true → exec i s = .next t →
    ∃ r, t = s.reply r ∧ ∀ s' : State, s'.params = s.params → s'.tables = s.tables → exec i s' = .next (s'.reply r)

/-- R26, R29, R38: no command reads `S.spiRate` or `S.cx.lastNow`: with other values there, every command ends the same
way, with the same result, events, pins and answers. -/
def Obligations.RateAndLastNowAreNeverRead : Prop :=
  ∀ (i : Instr) (s : State) (rate : SpiRate) (last : Option Word32),
    let s' := { s with regs := { s.regs with spiRate := rate, cxLastNow := last } }
    (∀ t, exec i s = .next t → ∃ t', exec i s' = .next t' ∧ t'.result = t.result ∧ t'.events = t.events ∧
      t'.gpio = t.gpio ∧ t'.gpioDir = t.gpioDir ∧ t'.answers = t.answers ∧
      t'.regs.crcWriteMode = t.regs.crcWriteMode ∧ t'.regs.cxPin = t.regs.cxPin ∧
      t'.regs.cxActiveLevel = t.regs.cxActiveLevel ∧ t'.regs.cxPhase = t.regs.cxPhase) ∧
    (∀ f, exec i s = .fault f → exec i s' = .fault f)

/-- R82: an operand outside the range of its port is refused with E_ARG_RANGE, before anything else. -/
def Obligations.OperandsOutOfRangeAreRefused : Prop :=
  ∀ (i : Instr) (s : State), ¬OperandsInRange i → exec i s = failed s .argRange

/-! ## Encoding -/

/-- Decoding an encoded well-formed instruction gives it back, for every instruction and every operand. -/
def Obligations.DecodeOfEncodeIsTheInstruction : Prop := ∀ i : Instr, i.wf = true → decode (encode i) = .ok i

/-- Every word that decodes is the encoding of its instruction: no bit of an accepted word is dropped, and no two words
decode to one instruction. This rests on the model's choices that a command's ports come in its rule's order alone (log
entry 8, DESIGN CHOICE; R80 names the ports and gives no order) and that a transaction with parts its mode does not have is
refused (log entry 18, DESIGN CHOICE). -/
def Obligations.DecodedWordsAreEncodings : Prop := ∀ (w : HostWord) (i : Instr), decode w = .ok i → encode i = w

/-- R76: DECHDR gives E_HDR_RESERVED exactly for H1 with W = 0, F = 1 and for H2 with W = 0, M ≠ 00; every other byte 0
with L = 0, and every byte 1 after a byte 0 with L = 1, decodes to one mode with its fields, whatever bytes follow and
whatever the state. -/
def Obligations.ReservedHeadersAreTheTwoPatterns : Prop :=
  (∀ b0 : Byte, b0.toNat / 64 % 2 = 0 →
    (∀ (rest : List Byte) (s : State),
      exec (.dechdr (ofBytes (b0 :: rest))) s = failed s .hdrReserved ↔ b0.toNat / 128 = 0 ∧ b0.toNat % 2 = 1) ∧
    (¬(b0.toNat / 128 = 0 ∧ b0.toNat % 2 = 1) → ∃ id sub m hlen, ∀ (rest : List Byte) (s : State),
      exec (.dechdr (ofBytes (b0 :: rest))) s = answered s (.header id sub m hlen))) ∧
  (∀ b0 b1 : Byte, b0.toNat / 64 % 2 = 1 →
    (∀ (rest : List Byte) (s : State),
      exec (.dechdr (ofBytes (b0 :: b1 :: rest))) s = failed s .hdrReserved ↔
        b0.toNat / 128 = 0 ∧ b1.toNat % 4 ≠ 0) ∧
    (¬(b0.toNat / 128 = 0 ∧ b1.toNat % 4 ≠ 0) → ∃ id sub m hlen, ∀ (rest : List Byte) (s : State),
      exec (.dechdr (ofBytes (b0 :: b1 :: rest))) s = answered s (.header id sub m hlen)))

/-- R75: the header length is told by bit 6 of byte 0 alone. -/
def Obligations.HeaderLengthFollowsBit6 : Prop :=
  ∀ (b0 : Byte) (rest : List Byte) (h : Header), decodeHeader (b0 :: rest) = .ok h →
    h.hlen = 1 + b0.toNat / 64 % 2 ∧ h.hlen ≤ (b0 :: rest).length

/-- R121: DECHDR of what ENCHDR gave returns its operands, with hlen 1 for FC, SR, SW and 2 otherwise; ENCHDR of what
DECHDR read gives back the header bytes. -/
def Obligations.HeaderCodecRoundTrips : Prop :=
  (∀ (id : Nat) (sub : Option Nat) (mode : Nat) (s t : State) (h : List Byte),
    exec (.enchdr id sub mode) s = .next t → t.result = some ⟨.ok, .hdr h⟩ →
    ∃ m, codeOfMode m = mode ∧ ∀ s', exec (.dechdr (ofBytes h)) s' =
      answered s' (.header id sub m (if mode ≤ 2 then 1 else 2))) ∧
  (∀ (bytes : List Nat) (s t : State) (id : Nat) (sub : Option Nat) (m : Mode) (hlen : Nat),
    exec (.dechdr bytes) s = .next t → t.result = some ⟨.ok, .header id sub m hlen⟩ →
    ∀ s', exec (.enchdr id sub (codeOfMode m)) s' = answered s' (.hdr (toBytes (bytes.take hlen))))

/-- Words written out from R70, R71 and R80 decode to their instructions. -/
def Obligations.SpecWordsDecode : Prop :=
  decode (.transaction [0x85#8] none) = .ok (.fastCommand 2) ∧
  decode (.transaction [0x3E#8] (some 4)) = .ok (.shortRead 31 4) ∧
  decode (.transaction [0x8A#8, 0x01#8] none) = .ok (.shortWrite 5 [1]) ∧
  decode (.transaction [0x55#8, 0x04#8] (some 2)) = .ok (.fullRead 10 (some 65) 2) ∧
  decode (.transaction [0xE3#8, 0xFC#8, 0xAA#8, 0x55#8] none) = .ok (.fullWrite 17 (some 127) [0xAA, 0x55]) ∧
  decode (.transaction [0xC5#8, 0x02#8, 0#8, 0xFC#8, 5#8, 0#8] none) =
    .ok (.maskedWrite16 2 (some 64) [0, 0xFC, 5, 0]) ∧
  decode (.command 0x31#8 [.delayed true, .date 0x100000]) = .ok (.cxstart true 0x100000) ∧
  decode (.transaction [0x3F#8] none) = .error .reservedHeader ∧
  decode (.command 0x27#8 []) = .error (.unassignedOpcode 0x27)

/-! ## The transport codec -/

/-- R108: ENCHDR, with the header bytes as the numbers of R70, R71, R73 and R74, and its errors in order. -/
def Obligations.EnchdrGivesTheHeader : Prop :=
  ∀ (id : Nat) (sub : Option Nat) (mode : Nat) (s : State),
    (¬(id ≤ 31 ∧ mode ≤ 7 ∧ SubLegal sub) → exec (.enchdr id sub mode) s = failed s .argRange) ∧
    (id ≤ 31 → mode ≤ 2 → SubLegal sub → sub ≠ none → exec (.enchdr id sub mode) s = failed s .mode) ∧
    (id ≤ 31 → 3 ≤ mode → mode ≤ 7 → sub = none → exec (.enchdr id sub mode) s = failed s .mode) ∧
    (id ≤ 31 → sub = none →
      (mode = 0 → exec (.enchdr id sub mode) s = answered s (.hdr (shortHeader 1 id 1))) ∧
      (mode = 1 → exec (.enchdr id sub mode) s = answered s (.hdr (shortHeader 0 id 0))) ∧
      (mode = 2 → exec (.enchdr id sub mode) s = answered s (.hdr (shortHeader 1 id 0)))) ∧
    (∀ x, id ≤ 31 → sub = some x → x ≤ 127 →
      (mode = 3 → exec (.enchdr id sub mode) s = answered s (.hdr (longHeader 0 id x 0))) ∧
      (4 ≤ mode → mode ≤ 7 → exec (.enchdr id sub mode) s = answered s (.hdr (longHeader 1 id x (mode - 4)))))

/-- R109: DECHDR on every byte sequence, with the fields as numbers. -/
def Obligations.DechdrReadsTheHeader : Prop :=
  ∀ s : State,
    exec (.dechdr []) s = failed s .hdrTruncated ∧
    (∀ b0 rest, AreBytes (b0 :: rest) → b0 / 64 % 2 = 0 →
      (b0 % 2 = 1 → b0 < 128 → exec (.dechdr (b0 :: rest)) s = failed s .hdrReserved) ∧
      (b0 % 2 = 1 → 128 ≤ b0 → exec (.dechdr (b0 :: rest)) s = answered s (.header (b0 / 2 % 32) none .fc 1)) ∧
      (b0 % 2 = 0 → 128 ≤ b0 → exec (.dechdr (b0 :: rest)) s = answered s (.header (b0 / 2 % 32) none .sw 1)) ∧
      (b0 % 2 = 0 → b0 < 128 → exec (.dechdr (b0 :: rest)) s = answered s (.header (b0 / 2 % 32) none .sr 1))) ∧
    (∀ b0, b0 ≤ 255 → b0 / 64 % 2 = 1 → exec (.dechdr [b0]) s = failed s .hdrTruncated) ∧
    (∀ b0 b1 rest, AreBytes (b0 :: b1 :: rest) → b0 / 64 % 2 = 1 →
      (b0 < 128 → b1 % 4 ≠ 0 → exec (.dechdr (b0 :: b1 :: rest)) s = failed s .hdrReserved) ∧
      (b0 < 128 → b1 % 4 = 0 →
        exec (.dechdr (b0 :: b1 :: rest)) s = answered s (.header (b0 / 2 % 32) (some (b0 % 2 * 64 + b1 / 4)) .fr 2)) ∧
      (128 ≤ b0 → ∃ m, codeOfMode m = 4 + b1 % 4 ∧
        exec (.dechdr (b0 :: b1 :: rest)) s = answered s (.header (b0 / 2 % 32) (some (b0 % 2 * 64 + b1 / 4)) m 2)))

/-- R111: each entry of the table as listed is the remainder of R110. -/
def Obligations.CrcTableHoldsTheRemainders : Prop :=
  crcTable.length = 256 ∧ ∀ d : Byte, crcT d = crcRemainder d

/-- R112: CRC8 folds the table over the bytes, from init; an init or a byte above 255 is E_ARG_RANGE. -/
def Obligations.Crc8FoldsTheTable : Prop :=
  ∀ (bytes : List Nat) (init : Nat) (s : State),
    (¬(AreBytes bytes ∧ init ≤ 255) → exec (.crc8 bytes init) s = failed s .argRange) ∧
    (AreBytes bytes → init ≤ 255 → exec (.crc8 bytes init) s = answered s (.crc
      (bytes.foldl (fun c x => crcTable.getD (BitVec.ofNat 8 x ^^^ c).toNat 0#8) (BitVec.ofNat 8 init))))

/-- R119: the CRC chains over concatenation; the CRC byte of R114 is that of the whole frame before it. -/
def Obligations.CrcChains : Prop :=
  (∀ (a b : List Byte) (i : Byte), crc8 (a ++ b) i = crc8 b (crc8 a i)) ∧
    ∀ h b : List Byte, crc8 b (crc8 h 0#8) = crc8 (h ++ b) 0#8

/-- R120: changing any one bit of a message changes its CRC, for every init. -/
def Obligations.CrcSeesEverySingleBit : Prop :=
  ∀ (m : List Byte) (k j : Nat) (b i : Byte), m[k]? = some b → j < 8 →
    crc8 (m.set k (b ^^^ (1#8 <<< j))) i ≠ crc8 m i

/-- R115: WFRAME whole: its errors in order, each without a call, and otherwise one transaction with the header of
the mode, the body unchanged, and in CRC mode the CRC byte. -/
def Obligations.WframeSendsOneFrame : Prop :=
  ∀ (id : Nat) (sub : Option Nat) (mode : Nat) (body : List Nat) (s : State),
    (¬(id ≤ 31 ∧ mode ≤ 7 ∧ SubLegal sub) → exec (.wframe id sub mode body) s = failed s .argRange) ∧
    (id ≤ 31 → mode ≤ 7 → SubLegal sub → AreBytes body →
      (mode = 0 ∨ mode = 1 ∨ mode = 3 → exec (.wframe id sub mode body) s = failed s .mode) ∧
      (mode = 2 → sub ≠ none → exec (.wframe id sub mode body) s = failed s .mode) ∧
      (4 ≤ mode → sub = none → exec (.wframe id sub mode body) s = failed s .mode) ∧
      (∀ h, mode ≠ 0 → WriteHeader mode id sub h →
        (¬BodyLegal s.params.maxBody mode body.length → exec (.wframe id sub mode body) s = failed s .length) ∧
        (BodyLegal s.params.maxBody mode body.length →
          exec (.wframe id sub mode body) s = .next (sent s h (toBytes body) s.regs.crcWriteMode))))

/-- R116: RFRAME whole: its errors in order, each without a call, and otherwise one read with its verdicts. -/
def Obligations.RframeReadsExactly : Prop :=
  ∀ (id : Nat) (sub : Option Nat) (mode n : Nat) (s : State),
    (¬(id ≤ 31 ∧ mode ≤ 7 ∧ SubLegal sub) → exec (.rframe id sub mode n) s = failed s .argRange) ∧
    (id ≤ 31 → mode ≤ 7 → SubLegal sub →
      (mode ≠ 1 → mode ≠ 3 → exec (.rframe id sub mode n) s = failed s .mode) ∧
      (mode = 1 → sub ≠ none → exec (.rframe id sub mode n) s = failed s .mode) ∧
      (mode = 3 → sub = none → exec (.rframe id sub mode n) s = failed s .mode) ∧
      (mode = 1 → sub = none →
        (¬(1 ≤ n ∧ n ≤ s.params.maxBody) → exec (.rframe id sub mode n) s = failed s .length) ∧
        (1 ≤ n → n ≤ s.params.maxBody → ReadDone (.rframe id sub mode n) s (shortHeader 0 id 0) n)) ∧
      (∀ x, mode = 3 → sub = some x →
        (¬(1 ≤ n ∧ n ≤ s.params.maxBody) → exec (.rframe id sub mode n) s = failed s .length) ∧
        (1 ≤ n → n ≤ s.params.maxBody → ReadDone (.rframe id sub mode n) s (longHeader 0 id x 0) n)))

/-- FCMD (R117), whose frame is an output also on E_HW_REJECT: R117 does not repeat that sentence of R115; the model
takes it from R122 (log entry 12, DEDUCED). -/
def Obligations.FcmdSendsOneByte : Prop :=
  ∀ (code : Nat) (s : State),
    (31 < code → exec (.fcmd code) s = failed s .argRange) ∧
    (code ≤ 31 → exec (.fcmd code) s =
      .next (sent s (shortHeader 1 code 1) [] (s.regs.crcWriteMode && s.params.fastcmdCrc)))

/-- R100 to R107: each wire transaction is what its issuing command does in that mode (log entry 7). -/
def Obligations.TransactionsAreTheirCommands : Prop :=
  ∀ (x n : Nat) (sub : Option Nat) (body : List Nat) (s : State),
    exec (.fastCommand x) s = exec (.fcmd x) s ∧
    exec (.shortRead x n) s = exec (.rframe x none 1 n) s ∧
    exec (.shortWrite x body) s = exec (.wframe x none 2 body) s ∧
    exec (.fullRead x sub n) s = exec (.rframe x sub 3 n) s ∧
    exec (.fullWrite x sub body) s = exec (.wframe x sub 4 body) s ∧
    exec (.maskedWrite8 x sub body) s = exec (.wframe x sub 5 body) s ∧
    exec (.maskedWrite16 x sub body) s = exec (.wframe x sub 6 body) s ∧
    exec (.maskedWrite32 x sub body) s = exec (.wframe x sub 7 body) s

/-- R100, R102, R104 to R107: the write-class transactions complete with one call, the header being the number the rule
gives (0x80 | c << 1 | 1, 0x80 | i << 1, 0xC000 | i << 9 | s << 2 and so on). The model's choice,
not these rules': the outputs of a transaction are those of its issuing command, out.frame among them (log entry 7, DESIGN
CHOICE), and fast-command keeps out.frame on E_HW_REJECT (log entry 12, DEDUCED). -/
def Obligations.WriteTransactionsComplete : Prop :=
  ∀ (id x : Nat) (body : List Nat) (s : State), id ≤ 31 → x ≤ 127 → AreBytes body →
    exec (.fastCommand id) s =
      .next (sent s [BitVec.ofNat 8 (0x80 + 2 * id + 1)] [] (s.regs.crcWriteMode && s.params.fastcmdCrc)) ∧
    (1 ≤ body.length → body.length ≤ s.params.maxBody →
      exec (.shortWrite id body) s =
        .next (sent s [BitVec.ofNat 8 (0x80 + 2 * id)] (toBytes body) s.regs.crcWriteMode) ∧
      exec (.fullWrite id (some x) body) s = .next (sent s (longHeader 1 id x 0) (toBytes body) s.regs.crcWriteMode)) ∧
    (body.length = 2 → exec (.maskedWrite8 id (some x) body) s =
      .next (sent s (longHeader 1 id x 1) (toBytes body) s.regs.crcWriteMode)) ∧
    (body.length = 4 → exec (.maskedWrite16 id (some x) body) s =
      .next (sent s (longHeader 1 id x 2) (toBytes body) s.regs.crcWriteMode)) ∧
    (body.length = 8 → exec (.maskedWrite32 id (some x) body) s =
      .next (sent s (longHeader 1 id x 3) (toBytes body) s.regs.crcWriteMode))

/-- R101, R103: the read transactions complete with one call and the verdicts of R116. That a transaction
returns the result and out.data of RFRAME is the model's choice (log entry 7, DESIGN CHOICE). -/
def Obligations.ReadTransactionsComplete : Prop :=
  ∀ (id x n : Nat) (s : State), id ≤ 31 → x ≤ 127 → 1 ≤ n → n ≤ s.params.maxBody →
    ReadDone (.shortRead id n) s [BitVec.ofNat 8 (2 * id)] n ∧
    ReadDone (.fullRead id (some x) n) s (longHeader 0 id x 0) n

/-- R21, R57, R59, R63: what the transactions leave: every field of S, the parameters, the other devices, the inputs and
the pins; H grows by at most the one call. -/
def Obligations.TransactionsLeaveTheRecord : Prop :=
  ∀ (i : Instr) (s t : State), isTransaction i = true → exec i s = .next t →
    OnlyTransactionTraces s t ∧ t.answers.gpio = s.answers.gpio ∧ t.answers.time = s.answers.time ∧
      (t.events = s.events ∨ ∃ e, t.events = s.events ++ [e] ∧ spiCalls [e] = 1)

/-- R84: MODIFY sends one masked write whose body is the AND mask, then the OR mask, little-endian. -/
def Obligations.ModifySendsBothMasks : Prop :=
  ∀ (id x a o : Nat) (s : State), id ≤ 31 → x ≤ 127 →
    (a < 2 ^ 8 → o < 2 ^ 8 → exec (expand (.modify8 id x a o)) s =
      .next (sent s (longHeader 1 id x 1) [BitVec.ofNat 8 a, BitVec.ofNat 8 o] s.regs.crcWriteMode)) ∧
    (a < 2 ^ 16 → o < 2 ^ 16 → exec (expand (.modify16 id x a o)) s =
      .next (sent s (longHeader 1 id x 2)
        [BitVec.ofNat 8 (a % 256), BitVec.ofNat 8 (a / 256), BitVec.ofNat 8 (o % 256), BitVec.ofNat 8 (o / 256)]
        s.regs.crcWriteMode)) ∧
    (a < 2 ^ 32 → o < 2 ^ 32 → exec (expand (.modify32 id x a o)) s =
      .next (sent s (longHeader 1 id x 3)
        [BitVec.ofNat 8 (a % 256), BitVec.ofNat 8 (a / 256 % 256), BitVec.ofNat 8 (a / 65536 % 256),
          BitVec.ofNat 8 (a / 16777216), BitVec.ofNat 8 (o % 256), BitVec.ofNat 8 (o / 256 % 256),
          BitVec.ofNat 8 (o / 65536 % 256), BitVec.ofNat 8 (o / 16777216)]
        s.regs.crcWriteMode))

/-- R118: CHKW accepts a frame of a write-class or fast-command header, a body of legal length and, where a CRC byte is
expected, the CRC of all before it, and returns the header's fields and the body; it accepts no other frame. -/
def Obligations.ChkwAcceptsExactlyTheGoodFrames : Prop :=
  (∀ (crc : Bool) (s : State) (id : Nat) (sub : Option Nat) (m : Mode) (h body : List Byte),
    id ≤ 31 → WriteHeader (codeOfMode m) id sub h → BodyLegal s.params.maxBody (codeOfMode m) body.length →
    exec (.chkw (ofBytes (h ++ body ++ crcTail crc s m (h ++ body))) crc) s = answered s (.received id sub m body)) ∧
  (∀ (frame : List Byte) (crc : Bool) (s : State) (id : Nat) (sub : Option Nat) (m : Mode) (body : List Byte),
    exec (.chkw (ofBytes frame) crc) s = answered s (.received id sub m body) →
    ∃ h, id ≤ 31 ∧ WriteHeader (codeOfMode m) id sub h ∧ BodyLegal s.params.maxBody (codeOfMode m) body.length ∧
      frame = h ++ body ++ crcTail crc s m (h ++ body))

/-- R118: CHKW whole, in the order of its verdicts: DECHDR's error, a read header, and where a CRC byte is expected a frame
too short for it and a mismatch; then the body length; then Ok with the header's fields and the body. -/
def Obligations.ChkwOrdersItsVerdicts : Prop :=
  ∀ (frame : List Byte) (crc : Bool) (s : State),
    (∀ c, c ≠ .ok → exec (.dechdr (ofBytes frame)) s = failed s c → exec (.chkw (ofBytes frame) crc) s = failed s c) ∧
    (∀ id sub m hlen, exec (.dechdr (ofBytes frame)) s = answered s (.header id sub m hlen) →
      (m = .sr ∨ m = .fr → exec (.chkw (ofBytes frame) crc) s = failed s .mode) ∧
      (m ≠ .sr → m ≠ .fr →
        (crc = true → (m ≠ .fc ∨ s.params.fastcmdCrc = true) →
          (frame.length < hlen + 1 → exec (.chkw (ofBytes frame) crc) s = failed s .length) ∧
          (∀ pre c, frame = pre ++ [c] → hlen ≤ pre.length →
            (crc8 pre 0#8 ≠ c → exec (.chkw (ofBytes frame) crc) s = failed s .crcMismatch) ∧
            (crc8 pre 0#8 = c → ¬BodyLegal s.params.maxBody (codeOfMode m) (pre.length - hlen) →
              exec (.chkw (ofBytes frame) crc) s = failed s .length) ∧
            (crc8 pre 0#8 = c → BodyLegal s.params.maxBody (codeOfMode m) (pre.length - hlen) →
              exec (.chkw (ofBytes frame) crc) s = answered s (.received id sub m (pre.drop hlen))))) ∧
        ((crc = false ∨ (m = .fc ∧ s.params.fastcmdCrc = false)) →
          (¬BodyLegal s.params.maxBody (codeOfMode m) (frame.length - hlen) →
            exec (.chkw (ofBytes frame) crc) s = failed s .length) ∧
          (BodyLegal s.params.maxBody (codeOfMode m) (frame.length - hlen) →
            exec (.chkw (ofBytes frame) crc) s = answered s (.received id sub m (frame.drop hlen))))))

/-- R122: CHKW of a frame that WFRAME or FCMD sent, or offered to a collaborator that failed, returns what the command
was given. For FCMD the far end must expect a CRC byte as FCMD sent it: `S.crcWriteMode`. -/
def Obligations.ChkwAcceptsWhatWasSent : Prop :=
  (∀ (id : Nat) (sub : Option Nat) (mode : Nat) (body : List Nat) (s t : State) (c : Code) (f : List Byte),
    exec (.wframe id sub mode body) s = .next t → t.result = some ⟨c, .frame f⟩ →
    ∃ m, codeOfMode m = mode ∧ ∀ s' : State, s'.params = s.params →
      exec (.chkw (ofBytes f) s.regs.crcWriteMode) s' = answered s' (.received id sub m (toBytes body))) ∧
  (∀ (code : Nat) (s t : State) (c : Code) (f : List Byte),
    exec (.fcmd code) s = .next t → t.result = some ⟨c, .frame f⟩ →
    ∀ s' : State, s'.params = s.params →
      exec (.chkw (ofBytes f) s.regs.crcWriteMode) s' = answered s' (.received code none .fc []))

/-- R118, R120: a frame that CHKW accepts with its CRC byte is not accepted after any one of its bits is changed. -/
def Obligations.ChkwRejectsEverySingleBitError : Prop :=
  ∀ (frame : List Byte) (s : State) (id : Nat) (sub : Option Nat) (m : Mode) (body : List Byte) (k j : Nat) (b : Byte),
    exec (.chkw (ofBytes frame) true) s = answered s (.received id sub m body) →
    (m ≠ .fc ∨ s.params.fastcmdCrc = true) → frame[k]? = some b → j < 8 →
    ∃ c, c ≠ .ok ∧ exec (.chkw (ofBytes (frame.set k (b ^^^ (1#8 <<< j)))) true) s = failed s c

/-! ## The timestamp codec -/

/-- R150: PACKLE gives w bytes, byte k being the k-th base-256 digit of v; a width above 8 is E_ARG_RANGE. -/
def Obligations.PackleGivesTheDigits : Prop :=
  ∀ (v w : Nat) (s : State),
    (8 < w ∨ 2 ^ 64 ≤ v → exec (.packle v w) s = failed s .argRange) ∧
    (w ≤ 8 → v < 2 ^ 64 → ∃ bs : List Byte, exec (.packle v w) s = answered s (.bytes bs) ∧ bs.length = w ∧
      ∀ k (b : Byte), bs[k]? = some b → b.toNat = v / 256 ^ k % 256)

/-- R151: UNPACKLE gives the sum of the bytes by their weights, zero-extended; more than 8 bytes is E_ARG_RANGE. -/
def Obligations.UnpackleGivesTheSum : Prop :=
  ∀ (bytes : List Nat) (s : State),
    (8 < bytes.length → exec (.unpackle bytes) s = failed s .argRange) ∧
    (bytes.length ≤ 8 → AreBytes bytes → ∃ v : Word64, exec (.unpackle bytes) s = answered s (.value v) ∧
      v.toNat = Nat.ofDigits 256 bytes ∧ v.toNat < 2 ^ (8 * bytes.length))

/-- R153: the round trips between PACKLE and UNPACKLE. -/
def Obligations.TimestampRoundTrips : Prop :=
  (∀ (v w : Nat) (s s' t : State) (bs : List Byte), exec (.packle v w) s = .next t →
    t.result = some ⟨.ok, .bytes bs⟩ →
    exec (.unpackle (ofBytes bs)) s' = answered s' (.value (BitVec.ofNat 64 (v % 2 ^ (8 * w)))) ∧
    (v < 2 ^ (8 * w) → exec (.unpackle (ofBytes bs)) s' = answered s' (.value (BitVec.ofNat 64 v)))) ∧
  (∀ (bytes : List Nat) (s s' t : State) (v : Word64), exec (.unpackle bytes) s = .next t →
    t.result = some ⟨.ok, .value v⟩ →
    exec (.packle v.toNat bytes.length) s' = answered s' (.bytes (toBytes bytes)))

/-! ## The timing-budget calculator -/

/-- R175: PBOOST by its regions; the index is always in range. -/
def Obligations.PboostLooksUpItsRegion : Prop :=
  ∀ (d : Nat) (s : State),
    (2 ^ 32 ≤ d → exec (.pboost d) s = failed s .argRange) ∧
    (d < 2 ^ 32 →
      (1000 ≤ d → exec (.pboost d) s = answered s (.boost 0#8)) ∧
      (200 < d → d < 1000 → (2 * (1000 - d) + 25) / 50 ≤ 32 ∧
        exec (.pboost d) s = answered s (.boost (s.tables.lut1.getD ((2 * (1000 - d) + 25) / 50) 0#8))) ∧
      (70 ≤ d → d ≤ 200 → (2 * (200 - d) + 10) / 20 ≤ 13 ∧
        exec (.pboost d) s = answered s (.boost (s.tables.lut2.getD ((2 * (200 - d) + 10) / 20) 0#8))) ∧
      (d < 70 → exec (.pboost d) s = answered s (.boost (s.tables.lut2.getD 13 0#8))))

/-- R171, R173: the entry PBOOST takes is the one whose duration is nearest, an exact half going to the larger index. -/
def Obligations.PboostTakesTheNearestEntry : Prop :=
  ∀ (d : Nat) (s : State),
    (200 < d → d < 1000 → ∃ i ≤ 32, exec (.pboost d) s = answered s (.boost (s.tables.lut1.getD i 0#8)) ∧
      2 * (25 * i) ≤ 2 * (1000 - d) + 25 ∧ 2 * (1000 - d) < 2 * (25 * i) + 25) ∧
    (70 ≤ d → d ≤ 200 → ∃ j ≤ 13, exec (.pboost d) s = answered s (.boost (s.tables.lut2.getD j 0#8)) ∧
      2 * (10 * j) ≤ 2 * (200 - d) + 10 ∧ 2 * (200 - d) < 2 * (10 * j) + 10)

/-- R184: under the constraints of R172 the boost does not increase with the duration, is 0 from 1000 µs on and 113 up
to 70 µs. -/
def Obligations.PboostNeverIncreases : Prop :=
  ∀ s : State, Lut1Ok s.tables.lut1 → Lut2Ok s.tables.lut2 →
    (∀ (d d' : Nat), d ≤ d' → d' < 2 ^ 32 → ∃ b b' : Byte, exec (.pboost d) s = answered s (.boost b) ∧
      exec (.pboost d') s = answered s (.boost b') ∧ b'.toNat ≤ b.toNat) ∧
    (∀ d, 1000 ≤ d → d < 2 ^ 32 → exec (.pboost d) s = answered s (.boost 0#8)) ∧
    (∀ d, d ≤ 70 → exec (.pboost d) s = answered s (.boost 113#8))

/-- R179: RXDLY whole: with s = sub_plen(p), subtract, saturate or fault, add the STS term (which equals the STS
length, R178), convert once. -/
def Obligations.RxdlyComputesTheDelay : Prop :=
  ∀ (base plen : Nat) (rate : DataRate) (sts : Nat) (s : State),
    let sub := if plen = 4096 then 2048 else plen
    let u := (base - sub) + sts
    let x := u * s.params.uusToDtuK / 256
    (¬ShapeLegal plen rate sts → exec (.rxdly base plen rate sts) s = failed s .argRange) ∧
    (base < 2 ^ 32 → ShapeLegal plen rate sts →
      (base < sub → s.params.underflowPolicy = .fault →
        exec (.rxdly base plen rate sts) s = .fault .budgetUnderflow) ∧
      ((base < sub → s.params.underflowPolicy = .clamp) →
        (2 ^ 32 ≤ u → exec (.rxdly base plen rate sts) s = .fault .rangeOverflow) ∧
        (2 ^ 32 ≤ x → exec (.rxdly base plen rate sts) s = .fault .rangeOverflow) ∧
        (u < 2 ^ 32 → x < 2 ^ 32 →
          exec (.rxdly base plen rate sts) s = answered s (.delay u x (decide (base < sub))))))

/-- R180, R181: RXTMO whole: the sum with the fixed margin 500, converted once; never an underflow. -/
def Obligations.RxtmoComputesTheTimeout : Prop :=
  ∀ (base plen : Nat) (rate : DataRate) (sts : Nat) (s : State),
    let total := base + (if rate = .r850k then 200 else 0) + (plen - 128) + 500 + sts
    let x := total * s.params.uusToDtuK / 256
    (¬ShapeLegal plen rate sts → exec (.rxtmo base plen rate sts) s = failed s .argRange) ∧
    (base < 2 ^ 32 → ShapeLegal plen rate sts →
      (2 ^ 32 ≤ total → exec (.rxtmo base plen rate sts) s = .fault .rangeOverflow) ∧
      (2 ^ 32 ≤ x → exec (.rxtmo base plen rate sts) s = .fault .rangeOverflow) ∧
      (total < 2 ^ 32 → x < 2 ^ 32 → exec (.rxtmo base plen rate sts) s = answered s (.timeout total x false)))

/-- R183: the laws of the budget commands, over every pair of calls that returned Ok. -/
def Obligations.BudgetLaws : Prop :=
  (∀ (base p p' : Nat) (rate : DataRate) (sts tot tot' x x' : Nat) (uf uf' : Bool) (s : State),
    exec (.rxtmo base p rate sts) s = answered s (.timeout tot x uf) →
    exec (.rxtmo base p' rate sts) s = answered s (.timeout tot' x' uf') → p ≤ p' → tot ≤ tot') ∧
  (∀ (base p sts tot tot' x x' : Nat) (uf uf' : Bool) (s : State),
    exec (.rxtmo base p .r6m8 sts) s = answered s (.timeout tot x uf) →
    exec (.rxtmo base p .r850k sts) s = answered s (.timeout tot' x' uf') → tot' = tot + 200) ∧
  (∀ (base p p' : Nat) (rate : DataRate) (sts u u' x x' : Nat) (uf uf' : Bool) (s : State),
    exec (.rxdly base p rate sts) s = answered s (.delay u x uf) →
    exec (.rxdly base p' rate sts) s = answered s (.delay u' x' uf') → p ≤ p' → u' ≤ u) ∧
  (∀ (base base' p : Nat) (rate : DataRate) (sts sts' u u' x x' : Nat) (uf uf' : Bool) (s : State),
    exec (.rxdly base p rate sts) s = answered s (.delay u x uf) →
    exec (.rxdly base' p rate sts') s = answered s (.delay u' x' uf') → base ≤ base' → sts ≤ sts' → u ≤ u' ∧ x ≤ x') ∧
  (∀ (base base' p : Nat) (rate : DataRate) (sts sts' tot tot' x x' : Nat) (uf uf' : Bool) (s : State),
    exec (.rxtmo base p rate sts) s = answered s (.timeout tot x uf) →
    exec (.rxtmo base' p rate sts') s = answered s (.timeout tot' x' uf') → base ≤ base' → sts ≤ sts' →
    tot ≤ tot' ∧ x ≤ x') ∧
  (∀ (base p : Nat) (rate : DataRate) (sts tot x : Nat) (uf : Bool) (s : State),
    exec (.rxtmo base p rate sts) s = answered s (.timeout tot x uf) → base + 500 ≤ tot)

/-- R186, R187: the conversions to DTU round down and fault above 2^32 - 1. -/
def Obligations.ConversionsToDtu : Prop :=
  ∀ (u : Nat) (s : State), u < 2 ^ 32 →
    (u * s.params.uusToDtuK / 256 < 2 ^ 32 →
      exec (.uus2dtu u) s = answered s (.dtu (u * s.params.uusToDtuK / 256))) ∧
    (2 ^ 32 ≤ u * s.params.uusToDtuK / 256 → exec (.uus2dtu u) s = .fault .rangeOverflow) ∧
    (u * s.params.dtuPerUsNum / s.params.dtuPerUsDen < 2 ^ 32 →
      exec (.us2dtu u) s = answered s (.dtu (u * s.params.dtuPerUsNum / s.params.dtuPerUsDen))) ∧
    (2 ^ 32 ≤ u * s.params.dtuPerUsNum / s.params.dtuPerUsDen → exec (.us2dtu u) s = .fault .rangeOverflow)

/-- R188: DTU2US truncates toward zero; a value that is no s32 is E_ARG_RANGE. -/
def Obligations.Dtu2usTruncates : Prop :=
  ∀ (d : Int) (s : State),
    (¬(-(2 ^ 31) ≤ d ∧ d ≤ 2 ^ 31 - 1) → exec (.dtu2us d) s = failed s .argRange) ∧
    (-(2 ^ 31) ≤ d → d ≤ 2 ^ 31 - 1 → exec (.dtu2us d) s = answered s (.us (microseconds s.params d)))

/-- R189: DTUDIFF gives the one s32 that is congruent to a - b modulo 2^32; an operand above 2^32 - 1 is E_ARG_RANGE. -/
def Obligations.DtudiffIsTheSignedDifference : Prop :=
  ∀ (a b : Nat) (s : State),
    (2 ^ 32 ≤ a ∨ 2 ^ 32 ≤ b → exec (.dtudiff a b) s = failed s .argRange) ∧
    (a < 2 ^ 32 → b < 2 ^ 32 → ∃ x : Int, exec (.dtudiff a b) s = answered s (.diff x) ∧
      -(2 ^ 31) ≤ x ∧ x < 2 ^ 31 ∧ (x - ((a : Int) - (b : Int))) % 2 ^ 32 = 0)

/-! ## The coexistence arbiter and the configuration commands -/

/-- R201: without a pin CXSTART returns its inputs with wait 0 and CXSTOP returns Ok; nothing else happens. -/
def Obligations.NoPinIsAPassthrough : Prop :=
  ∀ s : State, s.regs.cxPin = none →
    (∀ (delayed : Bool) (date : Nat), date < 2 ^ 32 →
      exec (.cxstart delayed date) s = answered s (.schedule delayed (BitVec.ofNat 32 date) 0)) ∧
    exec .cxstop s = answered s .none

/-- CXSTART (R202, R203). Without a pin it returns its inputs. With a pin, while Armed it faults. When the device time
fails nothing is written and no pin is driven. Otherwise the events come in order, lastNow and the outputs are the plan's,
and the pin takes the active level and the phase is Armed, or, when the GPIO write fails, the phase stays Idle and the pin's
bit is any value. The model's choice, not R203's: that the other pins keep their levels after a failed write (log entry 5,
DEDUCED), that a failed device-time read is the event with no value (log entry 21, DEDUCED), and that a wait above the u32
of its port is given exactly (log entry 29, DEDUCED). -/
def Obligations.CxstartRunsItsRule : Prop :=
  (∀ (s : State) (delayed : Bool) (date : Nat), s.regs.cxPin = none → date < 2 ^ 32 →
    exec (.cxstart delayed date) s = answered s (.schedule delayed (BitVec.ofNat 32 date) 0)) ∧
  ∀ (s : State) (p : Nat) (delayed : Bool) (date : Nat), s.regs.cxPin = some p → date < 2 ^ 32 →
    (s.regs.cxPhase = .armed → exec (.cxstart delayed date) s = .fault .coexReentry) ∧
    (s.regs.cxPhase = .idle → s.devTime = none →
      ∃ t, exec (.cxstart delayed date) s = .next t ∧ t.result = some ⟨.hwReject, .none⟩ ∧ t.regs = s.regs ∧
        t.gpio = s.gpio ∧ t.gpioDir = s.gpioDir ∧ t.events = s.events ++ [.devTime none] ∧
        t.answers.gpio = s.answers.gpio ∧ ArbiterKeeps s t) ∧
    (∀ now, s.regs.cxPhase = .idle → s.devTime = some now →
      ∃ t, exec (.cxstart delayed date) s = .next t ∧ t.gpioDir = s.gpioDir ∧ ArbiterKeeps s t ∧
        t.events = s.events ++ [.devTime (some now)] ++
          (if startWait s.params delayed date now = 0 then []
            else [.sleep (startWait s.params delayed date now)]) ++
          [.gpioSet (1#32 <<< p) (s.regs.cxActiveLevel.setWidth 32 <<< p) (ackOfGpio s.gpioAck)] ∧
        (s.gpioAck = .ok →
          t.result = some ⟨.ok, .schedule true (startDate s.params delayed date now)
            (startWait s.params delayed date now)⟩ ∧
          t.regs = { s.regs with cxLastNow := some now, cxPhase := .armed } ∧
          PinDriven t.gpio s.gpio p (s.regs.cxActiveLevel = 1#1)) ∧
        (∀ leaves, s.gpioAck = .fail leaves →
          t.result = some ⟨.hwReject, .schedule true (startDate s.params delayed date now)
            (startWait s.params delayed date now)⟩ ∧
          t.regs = { s.regs with cxLastNow := some now } ∧
          PinDriven t.gpio s.gpio p (leaves.getLsbD p)))

/-- R205: the laws of CXSTART for every device time and a configured pin, under the constraints of R7. -/
def Obligations.CxstartLaws : Prop :=
  ∀ (s : State) (p : Nat) (delayed : Bool) (date : Nat) (now : Word32) (t : State) (c : Code) (d : Bool)
    (out : Word32) (wait : Nat),
    Params.Ok s.params → s.regs.cxPin = some p → s.devTime = some now → exec (.cxstart delayed date) s = .next t →
    t.result = some ⟨c, .schedule d out wait⟩ →
    d = true ∧
    (delayed = false → wait = 0 ∧
      (out - now).toInt = (total s.params * s.params.dtuPerUsNum / s.params.dtuPerUsDen : Nat) ∧
      1 ≤ (out - now).toInt ∧ (out - now).toInt < 2 ^ 31) ∧
    (delayed = true → out = BitVec.ofNat 32 date ∧
      ((out - now).toInt ≤ 0 → wait = 0) ∧
      (wait : Int) = max 0 (microseconds s.params (out - now).toInt - total s.params))

/-- CXSTOP (R206). Without a pin it returns Ok and does nothing. With a pin, in any phase, the inactive level is written
and the phase is Idle whatever the outcome; a failure is E_HW_REJECT with the pin's bit any value. The model's choice, not
R206's: that the other pins keep their levels after a failed write (log entry 5, DEDUCED). -/
def Obligations.CxstopReleasesThePin : Prop :=
  (∀ s : State, s.regs.cxPin = none → exec .cxstop s = answered s .none) ∧
  ∀ (s : State) (p : Nat), s.regs.cxPin = some p →
    ∃ t, exec .cxstop s = .next t ∧ t.regs = { s.regs with cxPhase := .idle } ∧ t.gpioDir = s.gpioDir ∧
      ArbiterKeeps s t ∧ t.answers.time = s.answers.time ∧
      (s.gpioAck = .ok → t.result = some ⟨.ok, .none⟩ ∧
        t.events = s.events ++ [.gpioSet (1#32 <<< p) ((1#1 - s.regs.cxActiveLevel).setWidth 32 <<< p) .ok] ∧
        PinDriven t.gpio s.gpio p (s.regs.cxActiveLevel = 0#1)) ∧
      (∀ leaves, s.gpioAck = .fail leaves → t.result = some ⟨.hwReject, .none⟩ ∧
        t.events = s.events ++ [.gpioSet (1#32 <<< p) ((1#1 - s.regs.cxActiveLevel).setWidth 32 <<< p) .fail] ∧
        PinDriven t.gpio s.gpio p (leaves.getLsbD p))

/-- R24, R29, R200: only CXSTART and CXSTOP with a configured pin change the phase, CXSTART only to Armed and with Ok,
CXSTOP only to Idle; only CXSTART changes lastNow, and only to the device time it read. -/
def Obligations.OnlyTheArbiterChangesItsState : Prop :=
  ∀ (i : Instr) (s t : State), exec i s = .next t →
    (t.regs.cxPhase ≠ s.regs.cxPhase → s.regs.cxPin ≠ none ∧
      ((∃ delayed date out, i = .cxstart delayed date ∧ t.regs.cxPhase = .armed ∧ t.result = some ⟨.ok, out⟩) ∨
        (i = .cxstop ∧ t.regs.cxPhase = .idle))) ∧
    (t.regs.cxLastNow ≠ s.regs.cxLastNow →
      ∃ delayed date now, i = .cxstart delayed date ∧ s.devTime = some now ∧ t.regs.cxLastNow = some now)

/-- CXCFG (R230): its errors and fault in order, the call that makes the pin an output, and the record. The model's
choice, not R230's: that a direction bit of 1 is an output (log entry 4, DESIGN CHOICE), that the other pins keep their
directions after a failed call (log entry 5, DEDUCED), and that the call keeps every pin's level (log entry 30, DESIGN
CHOICE). -/
def Obligations.CxcfgConfiguresThePin : Prop :=
  ∀ (s : State) (pin : Option Nat) (level : Nat),
    ((∃ p, pin = some p ∧ s.params.npins ≤ p) ∨ 1 < level → exec (.cxcfg pin level) s = failed s .argRange) ∧
    ((∀ p, pin = some p → p < s.params.npins) → level ≤ 1 →
      (s.regs.cxPhase = .armed → exec (.cxcfg pin level) s = .fault .configWhileArmed) ∧
      (s.regs.cxPhase = .idle →
        (pin = none → exec (.cxcfg pin level) s =
          .next (State.reply { s with regs := { s.regs with cxPin := none, cxActiveLevel := BitVec.ofNat 1 level } }
            ⟨.ok, .none⟩)) ∧
        (∀ p, pin = some p → ∃ t, exec (.cxcfg pin level) s = .next t ∧ t.gpio = s.gpio ∧ ArbiterKeeps s t ∧
          t.answers.time = s.answers.time ∧
          (s.gpioAck = .ok → t.result = some ⟨.ok, .none⟩ ∧
            t.regs = { s.regs with cxPin := some p, cxActiveLevel := BitVec.ofNat 1 level } ∧
            t.events = s.events ++ [.gpioConfig (1#32 <<< p) .ok] ∧ PinDriven t.gpioDir s.gpioDir p true) ∧
          (∀ leaves, s.gpioAck = .fail leaves → t.result = some ⟨.hwReject, .none⟩ ∧ t.regs = s.regs ∧
            t.events = s.events ++ [.gpioConfig (1#32 <<< p) .fail] ∧ OtherPinsKept t.gpioDir s.gpioDir p))))

/-- R231, R232: SETCRC and SETRATE write their field, return Ok and change nothing else. -/
def Obligations.SetcrcAndSetrateWriteTheirField : Prop :=
  ∀ (s : State) (on : Bool) (rate : SpiRate),
    exec (.setcrc on) s = .next (State.reply { s with regs := { s.regs with crcWriteMode := on } } ⟨.ok, .none⟩) ∧
    exec (.setrate rate) s = .next (State.reply { s with regs := { s.regs with spiRate := rate } } ⟨.ok, .none⟩)

/-- R233: the configuration commands are the only writers of the four configuration fields, make no SPI call, and only
CXCFG calls a collaborator. -/
def Obligations.OnlyConfigurationCommandsConfigure : Prop :=
  ∀ (i : Instr) (s t : State), exec i s = .next t →
    (t.regs.crcWriteMode ≠ s.regs.crcWriteMode → ∃ on, i = .setcrc on) ∧
    (t.regs.spiRate ≠ s.regs.spiRate → ∃ rate, i = .setrate rate) ∧
    (t.regs.cxPin ≠ s.regs.cxPin ∨ t.regs.cxActiveLevel ≠ s.regs.cxActiveLevel → ∃ pin level, i = .cxcfg pin level) ∧
    ((∃ pin level, i = .cxcfg pin level) → spiCalls t.events = spiCalls s.events) ∧
    ((∃ on, i = .setcrc on) ∨ (∃ rate, i = .setrate rate) → t.events = s.events)

/-! ## Devices -/

/-- R39, R270: what a command or a reset of one device does depends on that device and the tables alone: in two states
that agree on them, the same input gives the same outcome and the same device afterwards. That pins, parameters and
collaborator answers are a device's own is the model's reading of R39 (log entry 14, DEDUCED; unsafe for two devices wired
to one GPIO register). -/
def Obligations.DevicesNeverReadEachOther : Prop :=
  ∀ (s s' : State) (k : Nat) (h : HostInput) (rest rest' : List HostInput),
    (h = .reset k ∨ ∃ w, h = .issue k w) → s.inputs = h :: rest → s'.inputs = h :: rest' →
    s'.tables = s.tables → s'.session k = s.session k →
    (∀ t, step s = .next t → ∃ t', step s' = .next t' ∧ t'.session k = t.session k) ∧
      (∀ f, step s = .fault f → step s' = .fault f) ∧ (∀ r, step s = .refused r → step s' = .refused r)
end

