-- ==== Sys2Proof/Laws/Bytes.lean ====
section
/-! SUPPORT. Byte sequences as operands and as bytes: the two views agree on sequences in range. -/

namespace Sys2Proof

theorem areBytes_iff (xs : List Nat) : areBytes xs = true ↔ ∀ x ∈ xs, x ≤ 255 := by
  simp [areBytes]

@[simp] theorem areBytes_ofBytes (bs : List Byte) : areBytes (ofBytes bs) = true := by
  simp only [areBytes_iff, ofBytes, List.mem_map]
  rintro _ ⟨b, _, rfl⟩
  have := b.isLt
  omega

@[simp] theorem toBytes_ofBytes (bs : List Byte) : toBytes (ofBytes bs) = bs := by
  simp [toBytes, ofBytes, Function.comp_def]

theorem ofBytes_toBytes {xs : List Nat} (h : areBytes xs = true) : ofBytes (toBytes xs) = xs := by
  rw [areBytes_iff] at h
  simp only [ofBytes, toBytes, List.map_map]
  refine (List.map_congr_left fun x hx => ?_).trans (List.map_id _)
  have := h x hx
  simp only [Function.comp_apply, BitVec.toNat_ofNat, id_eq]
  omega

@[simp] theorem toBytes_length (xs : List Nat) : (toBytes xs).length = xs.length := by simp [toBytes]

@[simp] theorem ofBytes_length (bs : List Byte) : (ofBytes bs).length = bs.length := by simp [ofBytes]

theorem isU32_iff (x : Nat) : isU32 x = true ↔ x < 2 ^ 32 := by
  simp only [isU32, u32Max, decide_eq_true_eq]
  omega

namespace Machine

theorem fitsU32_iff (x : Nat) : fitsU32 x = true ↔ x < 2 ^ 32 := by
  simp only [fitsU32, u32Max, decide_eq_true_eq]
  omega

/-- The STS term is the STS length itself (R178). -/
theorem stsTerm_eq {sts : Nat} (h : legalSts sts = true) : stsTerm sts = sts := by
  simp only [legalSts, List.contains_iff_mem, List.mem_cons, List.not_mem_nil, or_false] at h
  rcases h with rfl | rfl | rfl | rfl | rfl | rfl | rfl | rfl <;> rfl

end Machine

end Sys2Proof
end

