-- ==== Sys2Proof/Laws/State.lean ====
section
/-! SUPPORT. One lemma per field per update of State: no later proof unfolds an update. -/

namespace Sys2Proof.Machine

/-! ### reply -/

@[simp] theorem State.reply_tables (s : State) (r : Result) :
    (s.reply r).tables = s.tables := rfl
@[simp] theorem State.reply_params (s : State) (r : Result) :
    (s.reply r).params = s.params := rfl
@[simp] theorem State.reply_handle (s : State) (r : Result) :
    (s.reply r).handle = s.handle := rfl
@[simp] theorem State.reply_regs (s : State) (r : Result) :
    (s.reply r).regs = s.regs := rfl
@[simp] theorem State.reply_events (s : State) (r : Result) :
    (s.reply r).events = s.events := rfl
@[simp] theorem State.reply_result (s : State) (r : Result) :
    (s.reply r).result = some r := rfl
@[simp] theorem State.reply_parked (s : State) (r : Result) :
    (s.reply r).parked = s.parked := rfl
@[simp] theorem State.reply_inputs (s : State) (r : Result) :
    (s.reply r).inputs = s.inputs := rfl
@[simp] theorem State.reply_answers (s : State) (r : Result) :
    (s.reply r).answers = s.answers := rfl
@[simp] theorem State.reply_gpio (s : State) (r : Result) :
    (s.reply r).gpio = s.gpio := rfl
@[simp] theorem State.reply_gpioDir (s : State) (r : Result) :
    (s.reply r).gpioDir = s.gpioDir := rfl

/-! ### log -/

@[simp] theorem State.log_tables (s : State) (e : Event) :
    (s.log e).tables = s.tables := rfl
@[simp] theorem State.log_params (s : State) (e : Event) :
    (s.log e).params = s.params := rfl
@[simp] theorem State.log_handle (s : State) (e : Event) :
    (s.log e).handle = s.handle := rfl
@[simp] theorem State.log_regs (s : State) (e : Event) :
    (s.log e).regs = s.regs := rfl
@[simp] theorem State.log_events (s : State) (e : Event) :
    (s.log e).events = s.events ++ [e] := rfl
@[simp] theorem State.log_result (s : State) (e : Event) :
    (s.log e).result = s.result := rfl
@[simp] theorem State.log_parked (s : State) (e : Event) :
    (s.log e).parked = s.parked := rfl
@[simp] theorem State.log_inputs (s : State) (e : Event) :
    (s.log e).inputs = s.inputs := rfl
@[simp] theorem State.log_answers (s : State) (e : Event) :
    (s.log e).answers = s.answers := rfl
@[simp] theorem State.log_gpio (s : State) (e : Event) :
    (s.log e).gpio = s.gpio := rfl
@[simp] theorem State.log_gpioDir (s : State) (e : Event) :
    (s.log e).gpioDir = s.gpioDir := rfl

/-! ### spiTaken -/

@[simp] theorem State.spiTaken_tables (s : State) :
    s.spiTaken.tables = s.tables := rfl
@[simp] theorem State.spiTaken_params (s : State) :
    s.spiTaken.params = s.params := rfl
@[simp] theorem State.spiTaken_handle (s : State) :
    s.spiTaken.handle = s.handle := rfl
@[simp] theorem State.spiTaken_regs (s : State) :
    s.spiTaken.regs = s.regs := rfl
@[simp] theorem State.spiTaken_events (s : State) :
    s.spiTaken.events = s.events := rfl
@[simp] theorem State.spiTaken_result (s : State) :
    s.spiTaken.result = s.result := rfl
@[simp] theorem State.spiTaken_parked (s : State) :
    s.spiTaken.parked = s.parked := rfl
@[simp] theorem State.spiTaken_inputs (s : State) :
    s.spiTaken.inputs = s.inputs := rfl
@[simp] theorem State.spiTaken_answers (s : State) :
    s.spiTaken.answers = { s.answers with spi := Draws.taken s.answers.spi } := rfl
@[simp] theorem State.spiTaken_gpio (s : State) :
    s.spiTaken.gpio = s.gpio := rfl
@[simp] theorem State.spiTaken_gpioDir (s : State) :
    s.spiTaken.gpioDir = s.gpioDir := rfl

/-! ### replyTaken -/

@[simp] theorem State.replyTaken_tables (s : State) :
    s.replyTaken.tables = s.tables := rfl
@[simp] theorem State.replyTaken_params (s : State) :
    s.replyTaken.params = s.params := rfl
@[simp] theorem State.replyTaken_handle (s : State) :
    s.replyTaken.handle = s.handle := rfl
@[simp] theorem State.replyTaken_regs (s : State) :
    s.replyTaken.regs = s.regs := rfl
@[simp] theorem State.replyTaken_events (s : State) :
    s.replyTaken.events = s.events := rfl
@[simp] theorem State.replyTaken_result (s : State) :
    s.replyTaken.result = s.result := rfl
@[simp] theorem State.replyTaken_parked (s : State) :
    s.replyTaken.parked = s.parked := rfl
@[simp] theorem State.replyTaken_inputs (s : State) :
    s.replyTaken.inputs = s.inputs := rfl
@[simp] theorem State.replyTaken_answers (s : State) :
    s.replyTaken.answers = { s.answers with read := Draws.taken s.answers.read } := rfl
@[simp] theorem State.replyTaken_gpio (s : State) :
    s.replyTaken.gpio = s.gpio := rfl
@[simp] theorem State.replyTaken_gpioDir (s : State) :
    s.replyTaken.gpioDir = s.gpioDir := rfl

/-! ### gpioTaken -/

@[simp] theorem State.gpioTaken_tables (s : State) :
    s.gpioTaken.tables = s.tables := rfl
@[simp] theorem State.gpioTaken_params (s : State) :
    s.gpioTaken.params = s.params := rfl
@[simp] theorem State.gpioTaken_handle (s : State) :
    s.gpioTaken.handle = s.handle := rfl
@[simp] theorem State.gpioTaken_regs (s : State) :
    s.gpioTaken.regs = s.regs := rfl
@[simp] theorem State.gpioTaken_events (s : State) :
    s.gpioTaken.events = s.events := rfl
@[simp] theorem State.gpioTaken_result (s : State) :
    s.gpioTaken.result = s.result := rfl
@[simp] theorem State.gpioTaken_parked (s : State) :
    s.gpioTaken.parked = s.parked := rfl
@[simp] theorem State.gpioTaken_inputs (s : State) :
    s.gpioTaken.inputs = s.inputs := rfl
@[simp] theorem State.gpioTaken_answers (s : State) :
    s.gpioTaken.answers = { s.answers with gpio := Draws.taken s.answers.gpio } := rfl
@[simp] theorem State.gpioTaken_gpio (s : State) :
    s.gpioTaken.gpio = s.gpio := rfl
@[simp] theorem State.gpioTaken_gpioDir (s : State) :
    s.gpioTaken.gpioDir = s.gpioDir := rfl

/-! ### timeTaken -/

@[simp] theorem State.timeTaken_tables (s : State) :
    s.timeTaken.tables = s.tables := rfl
@[simp] theorem State.timeTaken_params (s : State) :
    s.timeTaken.params = s.params := rfl
@[simp] theorem State.timeTaken_handle (s : State) :
    s.timeTaken.handle = s.handle := rfl
@[simp] theorem State.timeTaken_regs (s : State) :
    s.timeTaken.regs = s.regs := rfl
@[simp] theorem State.timeTaken_events (s : State) :
    s.timeTaken.events = s.events := rfl
@[simp] theorem State.timeTaken_result (s : State) :
    s.timeTaken.result = s.result := rfl
@[simp] theorem State.timeTaken_parked (s : State) :
    s.timeTaken.parked = s.parked := rfl
@[simp] theorem State.timeTaken_inputs (s : State) :
    s.timeTaken.inputs = s.inputs := rfl
@[simp] theorem State.timeTaken_answers (s : State) :
    s.timeTaken.answers = { s.answers with time := Draws.taken s.answers.time } := rfl
@[simp] theorem State.timeTaken_gpio (s : State) :
    s.timeTaken.gpio = s.gpio := rfl
@[simp] theorem State.timeTaken_gpioDir (s : State) :
    s.timeTaken.gpioDir = s.gpioDir := rfl

/-! ### spiWrite -/

@[simp] theorem State.spiWrite_tables (s : State) (h b : List Byte) :
    (s.spiWrite h b).tables = s.tables := rfl
@[simp] theorem State.spiWrite_params (s : State) (h b : List Byte) :
    (s.spiWrite h b).params = s.params := rfl
@[simp] theorem State.spiWrite_handle (s : State) (h b : List Byte) :
    (s.spiWrite h b).handle = s.handle := rfl
@[simp] theorem State.spiWrite_regs (s : State) (h b : List Byte) :
    (s.spiWrite h b).regs = s.regs := rfl
@[simp] theorem State.spiWrite_events (s : State) (h b : List Byte) :
    (s.spiWrite h b).events = s.events ++ [.spiWrite h b s.spiAck] := rfl
@[simp] theorem State.spiWrite_result (s : State) (h b : List Byte) :
    (s.spiWrite h b).result = s.result := rfl
@[simp] theorem State.spiWrite_parked (s : State) (h b : List Byte) :
    (s.spiWrite h b).parked = s.parked := rfl
@[simp] theorem State.spiWrite_inputs (s : State) (h b : List Byte) :
    (s.spiWrite h b).inputs = s.inputs := rfl
@[simp] theorem State.spiWrite_answers (s : State) (h b : List Byte) :
    (s.spiWrite h b).answers = { s.answers with spi := Draws.taken s.answers.spi } := rfl
@[simp] theorem State.spiWrite_gpio (s : State) (h b : List Byte) :
    (s.spiWrite h b).gpio = s.gpio := rfl
@[simp] theorem State.spiWrite_gpioDir (s : State) (h b : List Byte) :
    (s.spiWrite h b).gpioDir = s.gpioDir := rfl

/-! ### spiWriteCrc -/

@[simp] theorem State.spiWriteCrc_tables (s : State) (h b : List Byte) (c : Byte) :
    (s.spiWriteCrc h b c).tables = s.tables := rfl
@[simp] theorem State.spiWriteCrc_params (s : State) (h b : List Byte) (c : Byte) :
    (s.spiWriteCrc h b c).params = s.params := rfl
@[simp] theorem State.spiWriteCrc_handle (s : State) (h b : List Byte) (c : Byte) :
    (s.spiWriteCrc h b c).handle = s.handle := rfl
@[simp] theorem State.spiWriteCrc_regs (s : State) (h b : List Byte) (c : Byte) :
    (s.spiWriteCrc h b c).regs = s.regs := rfl
@[simp] theorem State.spiWriteCrc_events (s : State) (h b : List Byte) (c : Byte) :
    (s.spiWriteCrc h b c).events = s.events ++ [.spiWriteCrc h b c s.spiAck] := rfl
@[simp] theorem State.spiWriteCrc_result (s : State) (h b : List Byte) (c : Byte) :
    (s.spiWriteCrc h b c).result = s.result := rfl
@[simp] theorem State.spiWriteCrc_parked (s : State) (h b : List Byte) (c : Byte) :
    (s.spiWriteCrc h b c).parked = s.parked := rfl
@[simp] theorem State.spiWriteCrc_inputs (s : State) (h b : List Byte) (c : Byte) :
    (s.spiWriteCrc h b c).inputs = s.inputs := rfl
@[simp] theorem State.spiWriteCrc_answers (s : State) (h b : List Byte) (c : Byte) :
    (s.spiWriteCrc h b c).answers = { s.answers with spi := Draws.taken s.answers.spi } := rfl
@[simp] theorem State.spiWriteCrc_gpio (s : State) (h b : List Byte) (c : Byte) :
    (s.spiWriteCrc h b c).gpio = s.gpio := rfl
@[simp] theorem State.spiWriteCrc_gpioDir (s : State) (h b : List Byte) (c : Byte) :
    (s.spiWriteCrc h b c).gpioDir = s.gpioDir := rfl

/-! ### spiRead -/

@[simp] theorem State.spiRead_tables (s : State) (h : List Byte) (n : Nat) :
    (s.spiRead h n).tables = s.tables := rfl
@[simp] theorem State.spiRead_params (s : State) (h : List Byte) (n : Nat) :
    (s.spiRead h n).params = s.params := rfl
@[simp] theorem State.spiRead_handle (s : State) (h : List Byte) (n : Nat) :
    (s.spiRead h n).handle = s.handle := rfl
@[simp] theorem State.spiRead_regs (s : State) (h : List Byte) (n : Nat) :
    (s.spiRead h n).regs = s.regs := rfl
@[simp] theorem State.spiRead_events (s : State) (h : List Byte) (n : Nat) :
    (s.spiRead h n).events = s.events ++ [.spiRead h n s.spiReply] := rfl
@[simp] theorem State.spiRead_result (s : State) (h : List Byte) (n : Nat) :
    (s.spiRead h n).result = s.result := rfl
@[simp] theorem State.spiRead_parked (s : State) (h : List Byte) (n : Nat) :
    (s.spiRead h n).parked = s.parked := rfl
@[simp] theorem State.spiRead_inputs (s : State) (h : List Byte) (n : Nat) :
    (s.spiRead h n).inputs = s.inputs := rfl
@[simp] theorem State.spiRead_answers (s : State) (h : List Byte) (n : Nat) :
    (s.spiRead h n).answers = { s.answers with read := Draws.taken s.answers.read } := rfl
@[simp] theorem State.spiRead_gpio (s : State) (h : List Byte) (n : Nat) :
    (s.spiRead h n).gpio = s.gpio := rfl
@[simp] theorem State.spiRead_gpioDir (s : State) (h : List Byte) (n : Nat) :
    (s.spiRead h n).gpioDir = s.gpioDir := rfl

/-! ### readTime -/

@[simp] theorem State.readTime_tables (s : State) :
    s.readTime.tables = s.tables := rfl
@[simp] theorem State.readTime_params (s : State) :
    s.readTime.params = s.params := rfl
@[simp] theorem State.readTime_handle (s : State) :
    s.readTime.handle = s.handle := rfl
@[simp] theorem State.readTime_regs (s : State) :
    s.readTime.regs = s.regs := rfl
@[simp] theorem State.readTime_events (s : State) :
    s.readTime.events = s.events ++ [.devTime s.devTime] := rfl
@[simp] theorem State.readTime_result (s : State) :
    s.readTime.result = s.result := rfl
@[simp] theorem State.readTime_parked (s : State) :
    s.readTime.parked = s.parked := rfl
@[simp] theorem State.readTime_inputs (s : State) :
    s.readTime.inputs = s.inputs := rfl
@[simp] theorem State.readTime_answers (s : State) :
    s.readTime.answers = { s.answers with time := Draws.taken s.answers.time } := rfl
@[simp] theorem State.readTime_gpio (s : State) :
    s.readTime.gpio = s.gpio := rfl
@[simp] theorem State.readTime_gpioDir (s : State) :
    s.readTime.gpioDir = s.gpioDir := rfl

/-! ### gpioSet -/

@[simp] theorem State.gpioSet_tables (s : State) (mask value : Word32) :
    (s.gpioSet mask value).tables = s.tables := rfl
@[simp] theorem State.gpioSet_params (s : State) (mask value : Word32) :
    (s.gpioSet mask value).params = s.params := rfl
@[simp] theorem State.gpioSet_handle (s : State) (mask value : Word32) :
    (s.gpioSet mask value).handle = s.handle := rfl
@[simp] theorem State.gpioSet_regs (s : State) (mask value : Word32) :
    (s.gpioSet mask value).regs = s.regs := rfl
@[simp] theorem State.gpioSet_events (s : State) (mask value : Word32) :
    (s.gpioSet mask value).events = s.events ++ [.gpioSet mask value (ackOfGpio s.gpioAck)] := rfl
@[simp] theorem State.gpioSet_result (s : State) (mask value : Word32) :
    (s.gpioSet mask value).result = s.result := rfl
@[simp] theorem State.gpioSet_parked (s : State) (mask value : Word32) :
    (s.gpioSet mask value).parked = s.parked := rfl
@[simp] theorem State.gpioSet_inputs (s : State) (mask value : Word32) :
    (s.gpioSet mask value).inputs = s.inputs := rfl
@[simp] theorem State.gpioSet_answers (s : State) (mask value : Word32) :
    (s.gpioSet mask value).answers = { s.answers with gpio := Draws.taken s.answers.gpio } := rfl
@[simp] theorem State.gpioSet_gpio (s : State) (mask value : Word32) :
    (s.gpioSet mask value).gpio = gpioAfter s.gpio mask value s.gpioAck := rfl
@[simp] theorem State.gpioSet_gpioDir (s : State) (mask value : Word32) :
    (s.gpioSet mask value).gpioDir = s.gpioDir := rfl

/-! ### gpioConfigOut -/

@[simp] theorem State.gpioConfigOut_tables (s : State) (mask : Word32) :
    (s.gpioConfigOut mask).tables = s.tables := rfl
@[simp] theorem State.gpioConfigOut_params (s : State) (mask : Word32) :
    (s.gpioConfigOut mask).params = s.params := rfl
@[simp] theorem State.gpioConfigOut_handle (s : State) (mask : Word32) :
    (s.gpioConfigOut mask).handle = s.handle := rfl
@[simp] theorem State.gpioConfigOut_regs (s : State) (mask : Word32) :
    (s.gpioConfigOut mask).regs = s.regs := rfl
@[simp] theorem State.gpioConfigOut_events (s : State) (mask : Word32) :
    (s.gpioConfigOut mask).events = s.events ++ [.gpioConfig mask (ackOfGpio s.gpioAck)] := rfl
@[simp] theorem State.gpioConfigOut_result (s : State) (mask : Word32) :
    (s.gpioConfigOut mask).result = s.result := rfl
@[simp] theorem State.gpioConfigOut_parked (s : State) (mask : Word32) :
    (s.gpioConfigOut mask).parked = s.parked := rfl
@[simp] theorem State.gpioConfigOut_inputs (s : State) (mask : Word32) :
    (s.gpioConfigOut mask).inputs = s.inputs := rfl
@[simp] theorem State.gpioConfigOut_answers (s : State) (mask : Word32) :
    (s.gpioConfigOut mask).answers = { s.answers with gpio := Draws.taken s.answers.gpio } := rfl
@[simp] theorem State.gpioConfigOut_gpio (s : State) (mask : Word32) :
    (s.gpioConfigOut mask).gpio = s.gpio := rfl
@[simp] theorem State.gpioConfigOut_gpioDir (s : State) (mask : Word32) :
    (s.gpioConfigOut mask).gpioDir = gpioAfter s.gpioDir mask mask s.gpioAck := rfl

/-! ### setCrcMode -/

@[simp] theorem State.setCrcMode_tables (s : State) (on : Bool) :
    (s.setCrcMode on).tables = s.tables := rfl
@[simp] theorem State.setCrcMode_params (s : State) (on : Bool) :
    (s.setCrcMode on).params = s.params := rfl
@[simp] theorem State.setCrcMode_handle (s : State) (on : Bool) :
    (s.setCrcMode on).handle = s.handle := rfl
@[simp] theorem State.setCrcMode_regs (s : State) (on : Bool) :
    (s.setCrcMode on).regs = { s.regs with crcWriteMode := on } := rfl
@[simp] theorem State.setCrcMode_events (s : State) (on : Bool) :
    (s.setCrcMode on).events = s.events := rfl
@[simp] theorem State.setCrcMode_result (s : State) (on : Bool) :
    (s.setCrcMode on).result = s.result := rfl
@[simp] theorem State.setCrcMode_parked (s : State) (on : Bool) :
    (s.setCrcMode on).parked = s.parked := rfl
@[simp] theorem State.setCrcMode_inputs (s : State) (on : Bool) :
    (s.setCrcMode on).inputs = s.inputs := rfl
@[simp] theorem State.setCrcMode_answers (s : State) (on : Bool) :
    (s.setCrcMode on).answers = s.answers := rfl
@[simp] theorem State.setCrcMode_gpio (s : State) (on : Bool) :
    (s.setCrcMode on).gpio = s.gpio := rfl
@[simp] theorem State.setCrcMode_gpioDir (s : State) (on : Bool) :
    (s.setCrcMode on).gpioDir = s.gpioDir := rfl

/-! ### setRate -/

@[simp] theorem State.setRate_tables (s : State) (r : SpiRate) :
    (s.setRate r).tables = s.tables := rfl
@[simp] theorem State.setRate_params (s : State) (r : SpiRate) :
    (s.setRate r).params = s.params := rfl
@[simp] theorem State.setRate_handle (s : State) (r : SpiRate) :
    (s.setRate r).handle = s.handle := rfl
@[simp] theorem State.setRate_regs (s : State) (r : SpiRate) :
    (s.setRate r).regs = { s.regs with spiRate := r } := rfl
@[simp] theorem State.setRate_events (s : State) (r : SpiRate) :
    (s.setRate r).events = s.events := rfl
@[simp] theorem State.setRate_result (s : State) (r : SpiRate) :
    (s.setRate r).result = s.result := rfl
@[simp] theorem State.setRate_parked (s : State) (r : SpiRate) :
    (s.setRate r).parked = s.parked := rfl
@[simp] theorem State.setRate_inputs (s : State) (r : SpiRate) :
    (s.setRate r).inputs = s.inputs := rfl
@[simp] theorem State.setRate_answers (s : State) (r : SpiRate) :
    (s.setRate r).answers = s.answers := rfl
@[simp] theorem State.setRate_gpio (s : State) (r : SpiRate) :
    (s.setRate r).gpio = s.gpio := rfl
@[simp] theorem State.setRate_gpioDir (s : State) (r : SpiRate) :
    (s.setRate r).gpioDir = s.gpioDir := rfl

/-! ### setPin -/

@[simp] theorem State.setPin_tables (s : State) (pin : Option Nat) (level : BitVec 1) :
    (s.setPin pin level).tables = s.tables := rfl
@[simp] theorem State.setPin_params (s : State) (pin : Option Nat) (level : BitVec 1) :
    (s.setPin pin level).params = s.params := rfl
@[simp] theorem State.setPin_handle (s : State) (pin : Option Nat) (level : BitVec 1) :
    (s.setPin pin level).handle = s.handle := rfl
@[simp] theorem State.setPin_regs (s : State) (pin : Option Nat) (level : BitVec 1) :
    (s.setPin pin level).regs = { s.regs with cxPin := pin, cxActiveLevel := level } := rfl
@[simp] theorem State.setPin_events (s : State) (pin : Option Nat) (level : BitVec 1) :
    (s.setPin pin level).events = s.events := rfl
@[simp] theorem State.setPin_result (s : State) (pin : Option Nat) (level : BitVec 1) :
    (s.setPin pin level).result = s.result := rfl
@[simp] theorem State.setPin_parked (s : State) (pin : Option Nat) (level : BitVec 1) :
    (s.setPin pin level).parked = s.parked := rfl
@[simp] theorem State.setPin_inputs (s : State) (pin : Option Nat) (level : BitVec 1) :
    (s.setPin pin level).inputs = s.inputs := rfl
@[simp] theorem State.setPin_answers (s : State) (pin : Option Nat) (level : BitVec 1) :
    (s.setPin pin level).answers = s.answers := rfl
@[simp] theorem State.setPin_gpio (s : State) (pin : Option Nat) (level : BitVec 1) :
    (s.setPin pin level).gpio = s.gpio := rfl
@[simp] theorem State.setPin_gpioDir (s : State) (pin : Option Nat) (level : BitVec 1) :
    (s.setPin pin level).gpioDir = s.gpioDir := rfl

/-! ### setLastNow -/

@[simp] theorem State.setLastNow_tables (s : State) (now : Word32) :
    (s.setLastNow now).tables = s.tables := rfl
@[simp] theorem State.setLastNow_params (s : State) (now : Word32) :
    (s.setLastNow now).params = s.params := rfl
@[simp] theorem State.setLastNow_handle (s : State) (now : Word32) :
    (s.setLastNow now).handle = s.handle := rfl
@[simp] theorem State.setLastNow_regs (s : State) (now : Word32) :
    (s.setLastNow now).regs = { s.regs with cxLastNow := some now } := rfl
@[simp] theorem State.setLastNow_events (s : State) (now : Word32) :
    (s.setLastNow now).events = s.events := rfl
@[simp] theorem State.setLastNow_result (s : State) (now : Word32) :
    (s.setLastNow now).result = s.result := rfl
@[simp] theorem State.setLastNow_parked (s : State) (now : Word32) :
    (s.setLastNow now).parked = s.parked := rfl
@[simp] theorem State.setLastNow_inputs (s : State) (now : Word32) :
    (s.setLastNow now).inputs = s.inputs := rfl
@[simp] theorem State.setLastNow_answers (s : State) (now : Word32) :
    (s.setLastNow now).answers = s.answers := rfl
@[simp] theorem State.setLastNow_gpio (s : State) (now : Word32) :
    (s.setLastNow now).gpio = s.gpio := rfl
@[simp] theorem State.setLastNow_gpioDir (s : State) (now : Word32) :
    (s.setLastNow now).gpioDir = s.gpioDir := rfl

/-! ### setPhase -/

@[simp] theorem State.setPhase_tables (s : State) (p : Phase) :
    (s.setPhase p).tables = s.tables := rfl
@[simp] theorem State.setPhase_params (s : State) (p : Phase) :
    (s.setPhase p).params = s.params := rfl
@[simp] theorem State.setPhase_handle (s : State) (p : Phase) :
    (s.setPhase p).handle = s.handle := rfl
@[simp] theorem State.setPhase_regs (s : State) (p : Phase) :
    (s.setPhase p).regs = { s.regs with cxPhase := p } := rfl
@[simp] theorem State.setPhase_events (s : State) (p : Phase) :
    (s.setPhase p).events = s.events := rfl
@[simp] theorem State.setPhase_result (s : State) (p : Phase) :
    (s.setPhase p).result = s.result := rfl
@[simp] theorem State.setPhase_parked (s : State) (p : Phase) :
    (s.setPhase p).parked = s.parked := rfl
@[simp] theorem State.setPhase_inputs (s : State) (p : Phase) :
    (s.setPhase p).inputs = s.inputs := rfl
@[simp] theorem State.setPhase_answers (s : State) (p : Phase) :
    (s.setPhase p).answers = s.answers := rfl
@[simp] theorem State.setPhase_gpio (s : State) (p : Phase) :
    (s.setPhase p).gpio = s.gpio := rfl
@[simp] theorem State.setPhase_gpioDir (s : State) (p : Phase) :
    (s.setPhase p).gpioDir = s.gpioDir := rfl

/-! ### restart -/

@[simp] theorem State.restart_tables (s : State) :
    s.restart.tables = s.tables := rfl
@[simp] theorem State.restart_params (s : State) :
    s.restart.params = s.params := rfl
@[simp] theorem State.restart_handle (s : State) :
    s.restart.handle = s.handle := rfl
@[simp] theorem State.restart_regs (s : State) :
    s.restart.regs = Record.reset := rfl
@[simp] theorem State.restart_events (s : State) :
    s.restart.events = s.events := rfl
@[simp] theorem State.restart_result (s : State) :
    s.restart.result = none := rfl
@[simp] theorem State.restart_parked (s : State) :
    s.restart.parked = s.parked := rfl
@[simp] theorem State.restart_inputs (s : State) :
    s.restart.inputs = s.inputs := rfl
@[simp] theorem State.restart_answers (s : State) :
    s.restart.answers = s.answers := rfl
@[simp] theorem State.restart_gpio (s : State) :
    s.restart.gpio = s.gpio := rfl
@[simp] theorem State.restart_gpioDir (s : State) :
    s.restart.gpioDir = s.gpioDir := rfl

/-! ### consume -/

@[simp] theorem State.consume_tables (s : State) :
    s.consume.tables = s.tables := rfl
@[simp] theorem State.consume_params (s : State) :
    s.consume.params = s.params := rfl
@[simp] theorem State.consume_handle (s : State) :
    s.consume.handle = s.handle := rfl
@[simp] theorem State.consume_regs (s : State) :
    s.consume.regs = s.regs := rfl
@[simp] theorem State.consume_events (s : State) :
    s.consume.events = s.events := rfl
@[simp] theorem State.consume_result (s : State) :
    s.consume.result = s.result := rfl
@[simp] theorem State.consume_parked (s : State) :
    s.consume.parked = s.parked := rfl
@[simp] theorem State.consume_inputs (s : State) :
    s.consume.inputs = s.inputs.tail := rfl
@[simp] theorem State.consume_answers (s : State) :
    s.consume.answers = s.answers := rfl
@[simp] theorem State.consume_gpio (s : State) :
    s.consume.gpio = s.gpio := rfl
@[simp] theorem State.consume_gpioDir (s : State) :
    s.consume.gpioDir = s.gpioDir := rfl

/-! ### offer -/

@[simp] theorem State.offer_tables (s : State) (w : HostWord) :
    (s.offer w).tables = s.tables := rfl
@[simp] theorem State.offer_params (s : State) (w : HostWord) :
    (s.offer w).params = s.params := rfl
@[simp] theorem State.offer_handle (s : State) (w : HostWord) :
    (s.offer w).handle = s.handle := rfl
@[simp] theorem State.offer_regs (s : State) (w : HostWord) :
    (s.offer w).regs = s.regs := rfl
@[simp] theorem State.offer_events (s : State) (w : HostWord) :
    (s.offer w).events = s.events := rfl
@[simp] theorem State.offer_result (s : State) (w : HostWord) :
    (s.offer w).result = s.result := rfl
@[simp] theorem State.offer_parked (s : State) (w : HostWord) :
    (s.offer w).parked = s.parked := rfl
@[simp] theorem State.offer_inputs (s : State) (w : HostWord) :
    (s.offer w).inputs = .issue s.handle w :: s.inputs := rfl
@[simp] theorem State.offer_answers (s : State) (w : HostWord) :
    (s.offer w).answers = s.answers := rfl
@[simp] theorem State.offer_gpio (s : State) (w : HostWord) :
    (s.offer w).gpio = s.gpio := rfl
@[simp] theorem State.offer_gpioDir (s : State) (w : HostWord) :
    (s.offer w).gpioDir = s.gpioDir := rfl

/-! ### sleepFor -/

@[simp] theorem State.sleepFor_tables (s : State) (us : Nat) :
    (s.sleepFor us).tables = s.tables := by
  unfold State.sleepFor; split <;> rfl
@[simp] theorem State.sleepFor_params (s : State) (us : Nat) :
    (s.sleepFor us).params = s.params := by
  unfold State.sleepFor; split <;> rfl
@[simp] theorem State.sleepFor_handle (s : State) (us : Nat) :
    (s.sleepFor us).handle = s.handle := by
  unfold State.sleepFor; split <;> rfl
@[simp] theorem State.sleepFor_regs (s : State) (us : Nat) :
    (s.sleepFor us).regs = s.regs := by
  unfold State.sleepFor; split <;> rfl
theorem State.sleepFor_events (s : State) (us : Nat) :
    (s.sleepFor us).events = if us = 0 then s.events else s.events ++ [.sleep us] := by
  unfold State.sleepFor; split <;> rfl
@[simp] theorem State.sleepFor_result (s : State) (us : Nat) :
    (s.sleepFor us).result = s.result := by
  unfold State.sleepFor; split <;> rfl
@[simp] theorem State.sleepFor_parked (s : State) (us : Nat) :
    (s.sleepFor us).parked = s.parked := by
  unfold State.sleepFor; split <;> rfl
@[simp] theorem State.sleepFor_inputs (s : State) (us : Nat) :
    (s.sleepFor us).inputs = s.inputs := by
  unfold State.sleepFor; split <;> rfl
@[simp] theorem State.sleepFor_answers (s : State) (us : Nat) :
    (s.sleepFor us).answers = s.answers := by
  unfold State.sleepFor; split <;> rfl
@[simp] theorem State.sleepFor_gpio (s : State) (us : Nat) :
    (s.sleepFor us).gpio = s.gpio := by
  unfold State.sleepFor; split <;> rfl
@[simp] theorem State.sleepFor_gpioDir (s : State) (us : Nat) :
    (s.sleepFor us).gpioDir = s.gpioDir := by
  unfold State.sleepFor; split <;> rfl

/-! ### withSession -/

@[simp] theorem State.withSession_tables (s : State) (k : Nat) (v : Session) (l : List (Nat × Session)) :
    (s.withSession k v l).tables = s.tables := rfl
@[simp] theorem State.withSession_params (s : State) (k : Nat) (v : Session) (l : List (Nat × Session)) :
    (s.withSession k v l).params = v.params := rfl
@[simp] theorem State.withSession_handle (s : State) (k : Nat) (v : Session) (l : List (Nat × Session)) :
    (s.withSession k v l).handle = k := rfl
@[simp] theorem State.withSession_regs (s : State) (k : Nat) (v : Session) (l : List (Nat × Session)) :
    (s.withSession k v l).regs = v.regs := rfl
@[simp] theorem State.withSession_events (s : State) (k : Nat) (v : Session) (l : List (Nat × Session)) :
    (s.withSession k v l).events = v.events := rfl
@[simp] theorem State.withSession_result (s : State) (k : Nat) (v : Session) (l : List (Nat × Session)) :
    (s.withSession k v l).result = v.result := rfl
@[simp] theorem State.withSession_parked (s : State) (k : Nat) (v : Session) (l : List (Nat × Session)) :
    (s.withSession k v l).parked = l := rfl
@[simp] theorem State.withSession_inputs (s : State) (k : Nat) (v : Session) (l : List (Nat × Session)) :
    (s.withSession k v l).inputs = s.inputs := rfl
@[simp] theorem State.withSession_answers (s : State) (k : Nat) (v : Session) (l : List (Nat × Session)) :
    (s.withSession k v l).answers = v.answers := rfl
@[simp] theorem State.withSession_gpio (s : State) (k : Nat) (v : Session) (l : List (Nat × Session)) :
    (s.withSession k v l).gpio = v.gpio := rfl
@[simp] theorem State.withSession_gpioDir (s : State) (k : Nat) (v : Session) (l : List (Nat × Session)) :
    (s.withSession k v l).gpioDir = v.gpioDir := rfl

/-! ### The draws: each stream is moved by its own call alone -/

@[simp] theorem State.reply_spiAck (s : State) (r : Result) : (s.reply r).spiAck = s.spiAck := rfl
@[simp] theorem State.log_spiAck (s : State) (e : Event) : (s.log e).spiAck = s.spiAck := rfl
@[simp] theorem State.replyTaken_spiAck (s : State) : s.replyTaken.spiAck = s.spiAck := rfl
@[simp] theorem State.gpioTaken_spiAck (s : State) : s.gpioTaken.spiAck = s.spiAck := rfl
@[simp] theorem State.timeTaken_spiAck (s : State) : s.timeTaken.spiAck = s.spiAck := rfl
@[simp] theorem State.spiRead_spiAck (s : State) (h : List Byte) (n : Nat) : (s.spiRead h n).spiAck = s.spiAck := rfl
@[simp] theorem State.readTime_spiAck (s : State) : s.readTime.spiAck = s.spiAck := rfl
@[simp] theorem State.gpioSet_spiAck (s : State) (mask value : Word32) : (s.gpioSet mask value).spiAck = s.spiAck := rfl
@[simp] theorem State.gpioConfigOut_spiAck (s : State) (mask : Word32) : (s.gpioConfigOut mask).spiAck = s.spiAck := rfl
@[simp] theorem State.setCrcMode_spiAck (s : State) (on : Bool) : (s.setCrcMode on).spiAck = s.spiAck := rfl
@[simp] theorem State.setRate_spiAck (s : State) (r : SpiRate) : (s.setRate r).spiAck = s.spiAck := rfl
@[simp] theorem State.setPin_spiAck (s : State) (pin : Option Nat) (level : BitVec 1) : (s.setPin pin level).spiAck = s.spiAck := rfl
@[simp] theorem State.setLastNow_spiAck (s : State) (now : Word32) : (s.setLastNow now).spiAck = s.spiAck := rfl
@[simp] theorem State.setPhase_spiAck (s : State) (p : Phase) : (s.setPhase p).spiAck = s.spiAck := rfl
@[simp] theorem State.restart_spiAck (s : State) : s.restart.spiAck = s.spiAck := rfl
@[simp] theorem State.consume_spiAck (s : State) : s.consume.spiAck = s.spiAck := rfl
@[simp] theorem State.offer_spiAck (s : State) (w : HostWord) : (s.offer w).spiAck = s.spiAck := rfl
@[simp] theorem State.sleepFor_spiAck (s : State) (us : Nat) : (s.sleepFor us).spiAck = s.spiAck := by
  unfold State.sleepFor; split <;> rfl

@[simp] theorem State.reply_spiReply (s : State) (r : Result) : (s.reply r).spiReply = s.spiReply := rfl
@[simp] theorem State.log_spiReply (s : State) (e : Event) : (s.log e).spiReply = s.spiReply := rfl
@[simp] theorem State.spiTaken_spiReply (s : State) : s.spiTaken.spiReply = s.spiReply := rfl
@[simp] theorem State.gpioTaken_spiReply (s : State) : s.gpioTaken.spiReply = s.spiReply := rfl
@[simp] theorem State.timeTaken_spiReply (s : State) : s.timeTaken.spiReply = s.spiReply := rfl
@[simp] theorem State.spiWrite_spiReply (s : State) (h b : List Byte) : (s.spiWrite h b).spiReply = s.spiReply := rfl
@[simp] theorem State.spiWriteCrc_spiReply (s : State) (h b : List Byte) (c : Byte) : (s.spiWriteCrc h b c).spiReply = s.spiReply := rfl
@[simp] theorem State.readTime_spiReply (s : State) : s.readTime.spiReply = s.spiReply := rfl
@[simp] theorem State.gpioSet_spiReply (s : State) (mask value : Word32) : (s.gpioSet mask value).spiReply = s.spiReply := rfl
@[simp] theorem State.gpioConfigOut_spiReply (s : State) (mask : Word32) : (s.gpioConfigOut mask).spiReply = s.spiReply := rfl
@[simp] theorem State.setCrcMode_spiReply (s : State) (on : Bool) : (s.setCrcMode on).spiReply = s.spiReply := rfl
@[simp] theorem State.setRate_spiReply (s : State) (r : SpiRate) : (s.setRate r).spiReply = s.spiReply := rfl
@[simp] theorem State.setPin_spiReply (s : State) (pin : Option Nat) (level : BitVec 1) : (s.setPin pin level).spiReply = s.spiReply := rfl
@[simp] theorem State.setLastNow_spiReply (s : State) (now : Word32) : (s.setLastNow now).spiReply = s.spiReply := rfl
@[simp] theorem State.setPhase_spiReply (s : State) (p : Phase) : (s.setPhase p).spiReply = s.spiReply := rfl
@[simp] theorem State.restart_spiReply (s : State) : s.restart.spiReply = s.spiReply := rfl
@[simp] theorem State.consume_spiReply (s : State) : s.consume.spiReply = s.spiReply := rfl
@[simp] theorem State.offer_spiReply (s : State) (w : HostWord) : (s.offer w).spiReply = s.spiReply := rfl
@[simp] theorem State.sleepFor_spiReply (s : State) (us : Nat) : (s.sleepFor us).spiReply = s.spiReply := by
  unfold State.sleepFor; split <;> rfl

@[simp] theorem State.reply_gpioAck (s : State) (r : Result) : (s.reply r).gpioAck = s.gpioAck := rfl
@[simp] theorem State.log_gpioAck (s : State) (e : Event) : (s.log e).gpioAck = s.gpioAck := rfl
@[simp] theorem State.spiTaken_gpioAck (s : State) : s.spiTaken.gpioAck = s.gpioAck := rfl
@[simp] theorem State.replyTaken_gpioAck (s : State) : s.replyTaken.gpioAck = s.gpioAck := rfl
@[simp] theorem State.timeTaken_gpioAck (s : State) : s.timeTaken.gpioAck = s.gpioAck := rfl
@[simp] theorem State.spiWrite_gpioAck (s : State) (h b : List Byte) : (s.spiWrite h b).gpioAck = s.gpioAck := rfl
@[simp] theorem State.spiWriteCrc_gpioAck (s : State) (h b : List Byte) (c : Byte) : (s.spiWriteCrc h b c).gpioAck = s.gpioAck := rfl
@[simp] theorem State.spiRead_gpioAck (s : State) (h : List Byte) (n : Nat) : (s.spiRead h n).gpioAck = s.gpioAck := rfl
@[simp] theorem State.readTime_gpioAck (s : State) : s.readTime.gpioAck = s.gpioAck := rfl
@[simp] theorem State.setCrcMode_gpioAck (s : State) (on : Bool) : (s.setCrcMode on).gpioAck = s.gpioAck := rfl
@[simp] theorem State.setRate_gpioAck (s : State) (r : SpiRate) : (s.setRate r).gpioAck = s.gpioAck := rfl
@[simp] theorem State.setPin_gpioAck (s : State) (pin : Option Nat) (level : BitVec 1) : (s.setPin pin level).gpioAck = s.gpioAck := rfl
@[simp] theorem State.setLastNow_gpioAck (s : State) (now : Word32) : (s.setLastNow now).gpioAck = s.gpioAck := rfl
@[simp] theorem State.setPhase_gpioAck (s : State) (p : Phase) : (s.setPhase p).gpioAck = s.gpioAck := rfl
@[simp] theorem State.restart_gpioAck (s : State) : s.restart.gpioAck = s.gpioAck := rfl
@[simp] theorem State.consume_gpioAck (s : State) : s.consume.gpioAck = s.gpioAck := rfl
@[simp] theorem State.offer_gpioAck (s : State) (w : HostWord) : (s.offer w).gpioAck = s.gpioAck := rfl
@[simp] theorem State.sleepFor_gpioAck (s : State) (us : Nat) : (s.sleepFor us).gpioAck = s.gpioAck := by
  unfold State.sleepFor; split <;> rfl

@[simp] theorem State.reply_devTime (s : State) (r : Result) : (s.reply r).devTime = s.devTime := rfl
@[simp] theorem State.log_devTime (s : State) (e : Event) : (s.log e).devTime = s.devTime := rfl
@[simp] theorem State.spiTaken_devTime (s : State) : s.spiTaken.devTime = s.devTime := rfl
@[simp] theorem State.replyTaken_devTime (s : State) : s.replyTaken.devTime = s.devTime := rfl
@[simp] theorem State.gpioTaken_devTime (s : State) : s.gpioTaken.devTime = s.devTime := rfl
@[simp] theorem State.spiWrite_devTime (s : State) (h b : List Byte) : (s.spiWrite h b).devTime = s.devTime := rfl
@[simp] theorem State.spiWriteCrc_devTime (s : State) (h b : List Byte) (c : Byte) : (s.spiWriteCrc h b c).devTime = s.devTime := rfl
@[simp] theorem State.spiRead_devTime (s : State) (h : List Byte) (n : Nat) : (s.spiRead h n).devTime = s.devTime := rfl
@[simp] theorem State.gpioSet_devTime (s : State) (mask value : Word32) : (s.gpioSet mask value).devTime = s.devTime := rfl
@[simp] theorem State.gpioConfigOut_devTime (s : State) (mask : Word32) : (s.gpioConfigOut mask).devTime = s.devTime := rfl
@[simp] theorem State.setCrcMode_devTime (s : State) (on : Bool) : (s.setCrcMode on).devTime = s.devTime := rfl
@[simp] theorem State.setRate_devTime (s : State) (r : SpiRate) : (s.setRate r).devTime = s.devTime := rfl
@[simp] theorem State.setPin_devTime (s : State) (pin : Option Nat) (level : BitVec 1) : (s.setPin pin level).devTime = s.devTime := rfl
@[simp] theorem State.setLastNow_devTime (s : State) (now : Word32) : (s.setLastNow now).devTime = s.devTime := rfl
@[simp] theorem State.setPhase_devTime (s : State) (p : Phase) : (s.setPhase p).devTime = s.devTime := rfl
@[simp] theorem State.restart_devTime (s : State) : s.restart.devTime = s.devTime := rfl
@[simp] theorem State.consume_devTime (s : State) : s.consume.devTime = s.devTime := rfl
@[simp] theorem State.offer_devTime (s : State) (w : HostWord) : (s.offer w).devTime = s.devTime := rfl
@[simp] theorem State.sleepFor_devTime (s : State) (us : Nat) : (s.sleepFor us).devTime = s.devTime := by
  unfold State.sleepFor; split <;> rfl

end Sys2Proof.Machine
end

