-- ==== Sys2Proof/Laws/Devices.lean ====
section
/-! SUPPORT. The list of the other devices: every operation keeps its canonical form, and reads back what was stored. -/

namespace Sys2Proof.Machine

/-! ## Lookup -/

theorem lookupSession_erase_ne {k j : Nat} (l : List (Nat × Session)) (h : j ≠ k) :
    lookupSession j (eraseSession k l) = lookupSession j l := by
  induction l with
  | nil => rfl
  | cons e rest ih =>
    obtain ⟨i, v⟩ := e
    simp only [eraseSession] at ih ⊢
    by_cases hi : i = k
    · have hij : i ≠ j := fun hc => h (hc.symm.trans hi)
      simp [hi, lookupSession] at ih ⊢
      rw [ih, if_neg (hi ▸ hij)]
    · simp [hi, lookupSession, ih]

theorem lookupSession_insert (k j : Nat) (v : Session) (l : List (Nat × Session)) (hk : ∀ e ∈ l, e.1 ≠ k) :
    lookupSession j (insertSession k v l) = if j = k then v else lookupSession j l := by
  induction l with
  | nil => by_cases h : k = j <;> simp [insertSession, lookupSession, h, eq_comm]
  | cons e rest ih =>
    obtain ⟨i, w⟩ := e
    have hik : i ≠ k := hk (i, w) (by simp)
    have hrest := ih (fun e he => hk e (List.mem_cons_of_mem _ he))
    simp only [insertSession]
    split
    · by_cases h : j = k
      · simp [lookupSession, h]
      · simp [lookupSession, h, Ne.symm h]
    · by_cases hij : i = j
      · have : j ≠ k := hij ▸ hik
        simp [lookupSession, hij, this]
      · simp [lookupSession, hij, hrest]

theorem lookupSession_absent {k : Nat} {l : List (Nat × Session)} (h : ∀ e ∈ l, e.1 ≠ k) :
    lookupSession k l = Session.fresh k := by
  induction l with
  | nil => rfl
  | cons e rest ih =>
    obtain ⟨i, w⟩ := e
    have hi : i ≠ k := h (i, w) (by simp)
    simp [lookupSession, hi, ih (fun e he => h e (List.mem_cons_of_mem _ he))]

theorem lookupSession_mem (k : Nat) (l : List (Nat × Session)) :
    lookupSession k l = Session.fresh k ∨ (k, lookupSession k l) ∈ l := by
  induction l with
  | nil => exact .inl rfl
  | cons e rest ih =>
    obtain ⟨i, w⟩ := e
    by_cases hi : i = k
    · right; simp [lookupSession, hi]
    · simp only [lookupSession, if_neg hi]
      exact ih.imp id (List.mem_cons_of_mem _)

/-! ## The canonical form -/

theorem mem_eraseSession {k : Nat} {l : List (Nat × Session)} {e : Nat × Session} :
    e ∈ eraseSession k l ↔ e ∈ l ∧ e.1 ≠ k := by
  simp [eraseSession, List.mem_filter]

theorem mem_insertSession {k : Nat} {v : Session} {l : List (Nat × Session)} {e : Nat × Session} :
    e ∈ insertSession k v l ↔ e = (k, v) ∨ e ∈ l := by
  induction l with
  | nil => simp [insertSession]
  | cons x rest ih =>
    obtain ⟨i, w⟩ := x
    simp only [insertSession]
    split
    · simp
    · simp [ih, or_left_comm]

theorem pairwise_insertSession {k : Nat} {v : Session} {l : List (Nat × Session)}
    (h : List.Pairwise (fun a b => a.1 < b.1) l) (hk : ∀ e ∈ l, e.1 ≠ k) :
    List.Pairwise (fun a b => a.1 < b.1) (insertSession k v l) := by
  induction l with
  | nil => simp [insertSession]
  | cons x rest ih =>
    obtain ⟨i, w⟩ := x
    rw [List.pairwise_cons] at h
    have hik : i ≠ k := hk (i, w) (by simp)
    simp only [insertSession]
    split
    · rename_i hlt
      refine List.pairwise_cons.2 ⟨?_, List.pairwise_cons.2 h⟩
      intro e he
      rcases List.mem_cons.1 he with rfl | he
      · exact hlt
      · exact Nat.lt_trans hlt (h.1 e he)
    · rename_i hlt
      refine List.pairwise_cons.2 ⟨?_, ih h.2 (fun e he => hk e (List.mem_cons_of_mem _ he))⟩
      intro e he
      rcases mem_insertSession.1 he with rfl | he
      · show i < k; omega
      · exact h.1 e he

/-- Every session stored in a parked list is one of the old ones or the new one, and none is fresh. -/
theorem mem_parkSession {k : Nat} {v : Session} {l : List (Nat × Session)} {e : Nat × Session}
    (h : e ∈ parkSession k v l) : (e = (k, v) ∧ v ≠ Session.fresh k) ∨ (e ∈ l ∧ e.1 ≠ k) := by
  unfold parkSession at h
  split at h
  · exact .inr (mem_eraseSession.1 h)
  · rename_i hv
    rcases mem_insertSession.1 h with rfl | h
    · exact .inl ⟨rfl, hv⟩
    · exact .inr (mem_eraseSession.1 h)

theorem pairwise_eraseSession {k : Nat} {l : List (Nat × Session)}
    (h : List.Pairwise (fun a b => a.1 < b.1) l) : List.Pairwise (fun a b => a.1 < b.1) (eraseSession k l) :=
  h.sublist List.filter_sublist

theorem pairwise_parkSession {k : Nat} {v : Session} {l : List (Nat × Session)}
    (h : List.Pairwise (fun a b => a.1 < b.1) l) : List.Pairwise (fun a b => a.1 < b.1) (parkSession k v l) := by
  unfold parkSession
  split
  · exact pairwise_eraseSession h
  · exact pairwise_insertSession (pairwise_eraseSession h) (fun e he => (mem_eraseSession.1 he).2)

theorem lookupSession_parkSession (k j : Nat) (v : Session) (l : List (Nat × Session)) :
    lookupSession j (parkSession k v l) = if j = k then v else lookupSession j l := by
  unfold parkSession
  split
  · rename_i hv
    by_cases h : j = k
    · rw [if_pos h, hv, h]
      exact lookupSession_absent (fun e he => (mem_eraseSession.1 he).2)
    · rw [if_neg h, lookupSession_erase_ne l h]
  · rw [lookupSession_insert _ _ _ _ (fun e he => (mem_eraseSession.1 he).2)]
    by_cases h : j = k
    · rw [if_pos h, if_pos h]
    · rw [if_neg h, if_neg h, lookupSession_erase_ne l h]

/-! ## Selecting a device -/

@[simp] theorem State.select_handle (s : State) (k : Nat) : (s.select k).handle = k := by
  unfold State.select; split
  · rename_i h; exact h.symm
  · rfl

@[simp] theorem State.select_tables (s : State) (k : Nat) : (s.select k).tables = s.tables := by
  unfold State.select; split <;> rfl

@[simp] theorem State.select_inputs (s : State) (k : Nat) : (s.select k).inputs = s.inputs := by
  unfold State.select; split <;> rfl

/-- The selected session is the one the handle had. -/
theorem State.select_current (s : State) (k : Nat) : (s.select k).current = s.session k := by
  unfold State.select State.session
  split
  · rename_i h; simp
  · rfl

/-- Selecting changes no device's session. -/
theorem State.select_session (s : State) (k j : Nat) : (s.select k).session j = s.session j := by
  by_cases hk : k = s.handle
  · simp [State.select, hk]
  · by_cases hj : j = k
    · subst hj
      have h : (s.select j).session j = (s.select j).current := if_pos (State.select_handle s j).symm
      rw [h, State.select_current]
    · simp only [State.session, State.select_handle, if_neg hj]
      simp only [State.select, if_neg hk, State.withSession]
      rw [lookupSession_parkSession, lookupSession_erase_ne _ hj]

/-- Selecting keeps the canonical form of the list of the other devices. -/
theorem State.select_parkedWf (s : State) (k : Nat) (h : parkedWf s.handle s.parked) :
    parkedWf (s.select k).handle (s.select k).parked := by
  by_cases hk : k = s.handle
  · subst hk; simpa [State.select] using h
  · obtain ⟨hp, hf, _⟩ := h
    rw [State.select_handle]
    simp only [State.select, if_neg hk, State.withSession]
    refine ⟨pairwise_parkSession (pairwise_eraseSession hp), ?_, ?_⟩
    · intro e he
      rcases mem_parkSession he with ⟨rfl, hv⟩ | ⟨he, _⟩
      · exact hv
      · exact hf e (mem_eraseSession.1 he).1
    · intro e he
      rcases mem_parkSession he with ⟨rfl, _⟩ | ⟨he, _⟩
      · exact Ne.symm hk
      · exact (mem_eraseSession.1 he).2

/-- Every session after selecting was a session before, or is fresh. -/
theorem State.select_parked_mem (s : State) (k : Nat) (e : Nat × Session) (he : e ∈ (s.select k).parked) :
    e.2 = s.current ∨ e ∈ s.parked := by
  by_cases hk : k = s.handle
  · right; simpa [State.select, hk] using he
  · simp only [State.select, if_neg hk, State.withSession] at he
    rcases mem_parkSession he with ⟨rfl, _⟩ | ⟨he, _⟩
    · exact .inl rfl
    · exact .inr (mem_eraseSession.1 he).1

theorem State.session_mem (s : State) (k : Nat) :
    s.session k = s.current ∨ s.session k = Session.fresh k ∨ (k, s.session k) ∈ s.parked := by
  unfold State.session
  split
  · exact .inl rfl
  · exact .inr (lookupSession_mem k s.parked)

end Sys2Proof.Machine
end

