-- ==== Sys2Proof/Laws/Header.lean ====
section
/-! SUPPORT. The header codec: what the formats are as numbers, and that encoding and decoding a header agree. -/

namespace Sys2Proof

/-! ## Codes of modes -/

@[simp] theorem modeOfCode_codeOfMode (m : Mode) : modeOfCode (codeOfMode m) = some m := by cases m <;> rfl

theorem codeOfMode_of_modeOfCode {c : Nat} {m : Mode} (h : modeOfCode c = some m) : codeOfMode m = c := by
  unfold modeOfCode at h
  split at h <;> first | (cases h; rfl) | cases h

theorem modeOfCode_isSome (c : Nat) : (∃ m, modeOfCode c = some m) ↔ c ≤ 7 := by
  constructor
  · rintro ⟨m, h⟩
    rw [← codeOfMode_of_modeOfCode h]
    cases m <;> decide
  · intro h
    interval_cases c <;> exact ⟨_, rfl⟩

theorem modeOfCode_none {c : Nat} (h : 7 < c) : modeOfCode c = none := by
  cases hm : modeOfCode c with
  | none => rfl
  | some m => have := (modeOfCode_isSome c).1 ⟨m, hm⟩; omega

/-! ## The formats -/

theorem decodeHeader_H1 (w id f : Nat) (rest : List Byte) (hw : w ≤ 1) (hid : id ≤ 31) (hf : f ≤ 1) :
    decodeHeader (headerH1 w id f ++ rest) =
      if f = 1 then (if w = 0 then .error .reserved else .ok ⟨id, none, .fc, 1⟩)
      else .ok ⟨id, none, if w = 1 then .sw else .sr, 1⟩ := by
  have hb : (BitVec.ofNat 8 (w * 2 ^ 7 + id * 2 ^ 1 + f)).toNat = w * 128 + id * 2 + f := by
    rw [BitVec.toNat_ofNat]; omega
  have h6 : bits (w * 128 + id * 2 + f) 6 6 = 0 := by simp only [bits]; omega
  have h0 : bits (w * 128 + id * 2 + f) 0 0 = f := by simp only [bits]; omega
  have h7 : bits (w * 128 + id * 2 + f) 7 7 = w := by simp only [bits]; omega
  have hi : bits (w * 128 + id * 2 + f) 5 1 = id := by simp only [bits]; omega
  simp only [headerH1, List.cons_append, decodeHeader, hb, h6, decodeH1, h0, h7, hi, if_true]

theorem decodeHeader_H2 (w id sub m : Nat) (rest : List Byte) (hw : w ≤ 1) (hid : id ≤ 31) (hs : sub ≤ 127)
    (hm : m ≤ 3) :
    decodeHeader (headerBytes (headerH2 w id sub m) ++ rest) =
      if w = 0 then (if m = 0 then .ok ⟨id, some sub, .fr, 2⟩ else .error .reserved)
      else .ok ⟨id, some sub, writeModeOfM m, 2⟩ := by
  have hb0 : (BitVec.ofNat 8 (headerH2 w id sub m / 256)).toNat = w * 128 + 64 + id * 2 + sub / 64 := by
    rw [BitVec.toNat_ofNat]; simp only [headerH2]; omega
  have hb1 : (BitVec.ofNat 8 (headerH2 w id sub m % 256)).toNat = sub % 64 * 4 + m := by
    rw [BitVec.toNat_ofNat]; simp only [headerH2]; omega
  have h6 : bits (w * 128 + 64 + id * 2 + sub / 64) 6 6 = 1 := by simp only [bits]; omega
  have h7 : bits (w * 128 + 64 + id * 2 + sub / 64) 7 7 = w := by simp only [bits]; omega
  have hi : bits (w * 128 + 64 + id * 2 + sub / 64) 5 1 = id := by simp only [bits]; omega
  have hsub : bits (w * 128 + 64 + id * 2 + sub / 64) 0 0 * 64 + bits (sub % 64 * 4 + m) 7 2 = sub := by
    simp only [bits]; omega
  have hm' : bits (sub % 64 * 4 + m) 1 0 = m := by simp only [bits]; omega
  simp only [headerBytes, List.cons_append, decodeHeader, hb0, hb1, h6, decodeH2, h7, hi, hsub, hm', one_ne_zero,
    if_false]

/-! ## Encoding, then decoding -/

/-- The header an encoder wrote is the header a decoder reads, whatever follows it. -/
theorem decodeHeader_encodeHeader (m : Mode) (id sub : Nat) (rest : List Byte) (hid : id ≤ 31) (hs : sub ≤ 127) :
    decodeHeader (encodeHeader m id sub ++ rest) =
      .ok ⟨id, if modeIsLong m then some sub else none, m, if modeIsLong m then 2 else 1⟩ := by
  cases m <;> simp only [encodeHeader, modeIsLong]
  all_goals first
    | (rw [decodeHeader_H1 _ _ _ _ (by omega) hid (by omega)]; rfl)
    | (rw [decodeHeader_H2 _ _ _ _ _ (by omega) hid hs (by omega)]; rfl)

theorem encodeHeader_length (m : Mode) (id sub : Nat) :
    (encodeHeader m id sub).length = if modeIsLong m then 2 else 1 := by
  cases m <;> rfl

/-! ## Decoding, then encoding -/

theorem bits_H1 (b : Nat) (h : b < 256) (h6 : bits b 6 6 = 0) :
    bits b 7 7 * 2 ^ 7 + bits b 5 1 * 2 ^ 1 + bits b 0 0 = b := by
  simp only [bits] at *; omega

theorem bits_H2 (b0 b1 : Nat) (h0 : b0 < 256) (h1 : b1 < 256) (h6 : bits b0 6 6 ≠ 0) :
    headerH2 (bits b0 7 7) (bits b0 5 1) (bits b0 0 0 * 64 + bits b1 7 2) (bits b1 1 0) = b0 * 256 + b1 := by
  simp only [bits, headerH2] at *; omega

theorem headerBytes_pair (b0 b1 : Byte) : headerBytes (b0.toNat * 256 + b1.toNat) = [b0, b1] := by
  have h0 := b0.isLt
  have h1 := b1.isLt
  have e0 : (b0.toNat * 256 + b1.toNat) / 256 = b0.toNat := by omega
  have e1 : (b0.toNat * 256 + b1.toNat) % 256 = b1.toNat := by omega
  simp [headerBytes, e0, e1]

/-- Everything a decoded header can be: its fields are in range, and its bytes are the encoder's. -/
theorem decodeHeader_ok {bytes : List Byte} {h : Header} (hd : decodeHeader bytes = .ok h) :
    h.id ≤ 31 ∧ h.sub.isSome = modeIsLong h.mode ∧ (∀ x, h.sub = some x → x ≤ 127) ∧
      h.hlen = (if modeIsLong h.mode then 2 else 1) ∧ h.hlen ≤ bytes.length ∧
      bytes.take h.hlen = encodeHeader h.mode h.id (h.sub.getD 0) := by
  match bytes with
  | [] => cases hd
  | b0 :: rest =>
    have l0 := b0.isLt
    simp only [decodeHeader] at hd
    split at hd
    · rename_i h6
      have hr := bits_H1 b0.toNat l0 h6
      have hid : bits b0.toNat 5 1 ≤ 31 := by simp only [bits]; omega
      have hw : bits b0.toNat 7 7 ≤ 1 := by simp only [bits]; omega
      have hf : bits b0.toNat 0 0 ≤ 1 := by simp only [bits]; omega
      simp only [decodeH1] at hd
      split at hd
      · rename_i h0
        split at hd
        · cases hd
        · rename_i h7
          cases hd
          have e7 : bits b0.toNat 7 7 = 1 := by omega
          refine ⟨hid, rfl, by simp, rfl, by simp, ?_⟩
          simp only [encodeHeader, headerH1, List.take_succ_cons, List.take_zero]
          rw [h0, e7] at hr
          rw [hr, BitVec.ofNat_toNat, BitVec.setWidth_eq]
      · rename_i h0
        have e0 : bits b0.toNat 0 0 = 0 := by omega
        cases hd
        by_cases h7 : bits b0.toNat 7 7 = 1
        · simp only [h7, if_true]
          refine ⟨hid, rfl, by simp, rfl, by simp, ?_⟩
          simp only [encodeHeader, headerH1, List.take_succ_cons, List.take_zero]
          rw [e0, h7] at hr
          rw [hr, BitVec.ofNat_toNat, BitVec.setWidth_eq]
        · have e7 : bits b0.toNat 7 7 = 0 := by omega
          simp only [h7, if_false]
          refine ⟨hid, rfl, by simp, rfl, by simp, ?_⟩
          simp only [encodeHeader, headerH1, List.take_succ_cons, List.take_zero]
          rw [e0, e7] at hr
          rw [hr, BitVec.ofNat_toNat, BitVec.setWidth_eq]
    · rename_i h6
      match rest with
      | [] => cases hd
      | b1 :: rest' =>
        have l1 := b1.isLt
        have hr := bits_H2 b0.toNat b1.toNat l0 l1 h6
        have hid : bits b0.toNat 5 1 ≤ 31 := by simp only [bits]; omega
        have hw : bits b0.toNat 7 7 ≤ 1 := by simp only [bits]; omega
        have hs : bits b0.toNat 0 0 * 64 + bits b1.toNat 7 2 ≤ 127 := by simp only [bits]; omega
        have hm : bits b1.toNat 1 0 ≤ 3 := by simp only [bits]; omega
        simp only [decodeH2] at hd
        split at hd
        · rename_i h7
          split at hd
          · rename_i hm0
            cases hd
            refine ⟨hid, rfl, by rintro x ⟨⟩; exact hs, rfl, by simp, ?_⟩
            rw [h7, hm0] at hr
            simp only [encodeHeader, Option.getD_some, hr, headerBytes_pair]
            rfl
          · cases hd
        · rename_i h7
          have e7 : bits b0.toNat 7 7 = 1 := by omega
          cases hd
          generalize bits b1.toNat 1 0 = m at hr hm ⊢
          interval_cases m
          all_goals
            refine ⟨hid, rfl, by rintro x ⟨⟩; exact hs, rfl, by simp, ?_⟩
            rw [e7] at hr
            simp only [writeModeOfM, encodeHeader, Option.getD_some, hr, headerBytes_pair]
            rfl

end Sys2Proof
end

