-- ==== Sys2Proof/Laws/Ops.lean ====
section
/-! SUPPORT. For each shared operation one lemma that says everything it can do; later proofs cite it. -/

namespace Sys2Proof.Machine

/-! ## Transactions -/

/-- A transaction makes one call, reports its outcome with the frame, and leaves the rest. -/
theorem State.sendFrame_cases (s : State) (h b : List Byte) (crc : Bool) :
    (crc = true ∧ s.sendFrame h b crc = (s.spiWriteCrc h b (crc8 b (crc8 h 0#8))).reply
      ⟨ackCode s.spiAck, .frame (h ++ b ++ [crc8 b (crc8 h 0#8)])⟩) ∨
    (crc = false ∧ s.sendFrame h b crc = (s.spiWrite h b).reply ⟨ackCode s.spiAck, .frame (h ++ b)⟩) := by
  cases crc
  · exact .inr ⟨rfl, rfl⟩
  · exact .inl ⟨rfl, rfl⟩

/-- A write is refused with an error and no call, or sends one frame. -/
theorem State.writeFrame_cases (s : State) (id : Nat) (sub : Option Nat) (mode : Nat) (body : List Nat) :
    (∃ c, c ≠ .ok ∧ checkWrite s.params.maxBody id sub mode body = .error c ∧
      s.writeFrame id sub mode body = s.reply (.err c)) ∨
    (∃ h b, checkWrite s.params.maxBody id sub mode body = .ok (h, b) ∧
      s.writeFrame id sub mode body = s.sendFrame h b s.regs.crcWriteMode) := by
  unfold State.writeFrame
  cases hc : checkWrite s.params.maxBody id sub mode body with
  | error c =>
    refine .inl ⟨c, ?_, rfl, rfl⟩
    rintro rfl
    unfold checkWrite checkFields at hc
    grind
  | ok p => exact .inr ⟨p.1, p.2, rfl, rfl⟩

/-- A read is refused with an error and no call, or makes one call and gives its verdict. -/
theorem State.readFrame_cases (s : State) (id : Nat) (sub : Option Nat) (mode n : Nat) :
    (∃ c, c ≠ .ok ∧ checkRead s.params.maxBody id sub mode n = .error c ∧
      s.readFrame id sub mode n = s.reply (.err c)) ∨
    (∃ h, checkRead s.params.maxBody id sub mode n = .ok h ∧
      s.readFrame id sub mode n = (s.spiRead h n).reply (replyResult n s.spiReply)) := by
  unfold State.readFrame
  cases hc : checkRead s.params.maxBody id sub mode n with
  | error c =>
    refine .inl ⟨c, ?_, rfl, rfl⟩
    rintro rfl
    unfold checkRead checkFields at hc
    grind
  | ok h => exact .inr ⟨h, rfl, rfl⟩

/-- A fast command is refused for its range, or sends one header. -/
theorem State.fastFrame_cases (s : State) (code : Nat) :
    (31 < code ∧ s.fastFrame code = s.reply (.err .argRange)) ∨
    (code ≤ 31 ∧ s.fastFrame code =
      s.sendFrame (hdr code none .fc) [] (s.regs.crcWriteMode && s.params.fastcmdCrc)) := by
  unfold State.fastFrame idInRange
  by_cases h : code ≤ 31
  · exact .inr ⟨h, by simp [h]⟩
  · exact .inl ⟨by omega, by simp [h]⟩

/-- What `checkFields` answers when it accepts. -/
theorem checkFields_ok {id : Nat} {sub : Option Nat} {mode : Nat} {m : Mode} (h : checkFields id sub mode = .ok m) :
    id ≤ 31 ∧ subInRange sub = true ∧ modeOfCode mode = some m := by
  unfold checkFields at h
  split at h
  · rename_i hr
    split at h
    · cases h
      simp_all [idInRange]
    · cases h
  · cases h

/-- What `checkWrite` answers when it accepts: every operand is in range and the header is the mode's. -/
theorem checkWrite_ok {maxBody id : Nat} {sub : Option Nat} {mode : Nat} {body : List Nat} {h b : List Byte}
    (hc : checkWrite maxBody id sub mode body = .ok (h, b)) :
    ∃ m, modeOfCode mode = some m ∧ id ≤ 31 ∧ subInRange sub = true ∧ areBytes body = true ∧ isWriteMode m = true ∧
      subMatches m sub = true ∧ bodyLengthOk maxBody m body.length = true ∧ h = hdr id sub m ∧ b = toBytes body := by
  unfold checkWrite at hc
  split at hc
  · cases hc
  rename_i m hf
  obtain ⟨hid, hsub, hm⟩ := checkFields_ok hf
  split at hc
  · cases hc
  split at hc
  · cases hc
  split at hc
  · cases hc
  split at hc
  · cases hc
  cases hc
  simp_all

/-- What `checkRead` answers when it accepts. -/
theorem checkRead_ok {maxBody id : Nat} {sub : Option Nat} {mode n : Nat} {h : List Byte}
    (hc : checkRead maxBody id sub mode n = .ok h) :
    ∃ m, modeOfCode mode = some m ∧ id ≤ 31 ∧ subInRange sub = true ∧ isReadMode m = true ∧
      subMatches m sub = true ∧ 1 ≤ n ∧ n ≤ maxBody ∧ h = hdr id sub m := by
  unfold checkRead at hc
  split at hc
  · cases hc
  rename_i m hf
  obtain ⟨hid, hsub, hm⟩ := checkFields_ok hf
  split at hc
  · cases hc
  split at hc
  · cases hc
  split at hc
  · cases hc
  split at hc
  · cases hc
  cases hc
  simp_all
  omega

/-- A verdict on a reply is Ok only for a reply of exactly the requested length. -/
theorem replyResult_ok {n : Nat} {r : Option (List Byte)} (h : (replyResult n r).code = .ok) :
    ∃ d, r = some d ∧ d.length = n ∧ replyResult n r = .done (.data d) := by
  unfold replyResult at h ⊢
  cases r with
  | none => cases h
  | some d =>
    by_cases h1 : d.length < n
    · simp [h1, Result.err] at h
    · by_cases h2 : n < d.length
      · simp [h1, h2, Result.err] at h
      · exact ⟨d, rfl, by omega, by simp [h1, h2]⟩

/-! ## The arbiter -/

/-- The end of CXSTART: armed with Ok, or E_HW_REJECT with the phase as it was; the outputs are the plan's either way. -/
theorem State.driveActive_cases (s : State) (pin : Nat) (date : Word32) (wait : Nat) :
    (s.gpioAck = .ok ∧ s.driveActive pin date wait =
      ((((s.sleepFor wait).gpioSet (pinMask pin) (pinValue pin s.regs.cxActiveLevel)).setPhase .armed).reply
        ⟨.ok, .schedule true date wait⟩)) ∨
    (∃ leaves, s.gpioAck = .fail leaves ∧ s.driveActive pin date wait =
      ((s.sleepFor wait).gpioSet (pinMask pin) (pinValue pin s.regs.cxActiveLevel)).reply
        ⟨.hwReject, .schedule true date wait⟩) := by
  unfold State.driveActive
  simp only [State.sleepFor_gpioAck]
  cases s.gpioAck with
  | ok => exact .inl ⟨rfl, rfl⟩
  | fail leaves => exact .inr ⟨leaves, rfl, rfl⟩

/-- CXSTART with a pin: a failed time read ends it with nothing written, else the pin is driven after lastNow is kept. -/
theorem State.arm_cases (s : State) (pin : Nat) (delayed : Bool) (date : Word32) :
    (s.devTime = none ∧ s.arm pin delayed date = s.readTime.reply ⟨.hwReject, .none⟩) ∨
    (∃ now, s.devTime = some now ∧ s.arm pin delayed date =
      (s.readTime.setLastNow now).driveActive pin (coexPlan s.params delayed date now).1
        (coexPlan s.params delayed date now).2) := by
  unfold State.arm
  cases s.devTime with
  | none => exact .inl ⟨rfl, rfl⟩
  | some now => exact .inr ⟨now, rfl, rfl⟩

/-- CXCFG after its checks: no call without a pin; else one call, and the record changes only when it succeeds. -/
theorem State.configure_cases (s : State) (pin : Option Nat) (level : BitVec 1) :
    (pin = none ∧ s.configure pin level = (s.setPin none level).reply ⟨.ok, .none⟩) ∨
    (∃ p, pin = some p ∧ s.gpioAck = .ok ∧
      s.configure pin level = ((s.gpioConfigOut (pinMask p)).setPin (some p) level).reply ⟨.ok, .none⟩) ∨
    (∃ p leaves, pin = some p ∧ s.gpioAck = .fail leaves ∧
      s.configure pin level = (s.gpioConfigOut (pinMask p)).reply ⟨.hwReject, .none⟩) := by
  unfold State.configure
  cases pin with
  | none => exact .inl ⟨rfl, rfl⟩
  | some p =>
    right
    simp only
    cases hg : s.gpioAck with
    | ok => exact .inl ⟨p, rfl, rfl, rfl⟩
    | fail leaves => exact .inr ⟨p, leaves, rfl, rfl, rfl⟩

/-! ## Pins -/

/-- Bit by bit, a masked write takes the value under the mask and keeps the rest (R33). -/
theorem maskedBits_getLsbD (old mask value : Word32) (i : Nat) (hi : i < 32) :
    (maskedBits old mask value).getLsbD i = if mask.getLsbD i then value.getLsbD i else old.getLsbD i := by
  unfold maskedBits
  simp only [BitVec.getLsbD_or, BitVec.getLsbD_and, BitVec.getLsbD_not]
  cases hm : mask.getLsbD i <;> simp [hi]

/-- The mask of a pin has that bit alone. -/
theorem pinMask_getLsbD (p i : Nat) (hi : i < 32) : (pinMask p).getLsbD i = decide (i = p) := by
  unfold pinMask
  rw [BitVec.getLsbD_shiftLeft]
  by_cases h : i < p
  · simp [h, hi, Nat.ne_of_lt h]
  · rcases Nat.eq_or_lt_of_le (Nat.le_of_not_lt h) with rfl | hlt
    · simp [hi]
    · have hne : i - p ≠ 0 := by omega
      have hip : i ≠ p := by omega
      simp [hi, h, hne, hip, BitVec.getLsbD_one]

/-- The value of a pin has the level at that bit. -/
theorem pinValue_getLsbD (p : Nat) (level : BitVec 1) (hp : p < 32) :
    (pinValue p level).getLsbD p = level.getLsbD 0 := by
  unfold pinValue
  rw [BitVec.getLsbD_shiftLeft]
  simp [hp]

end Sys2Proof.Machine
end

