-- ==== Sys2Proof/Laws/Exec.lean ====
section
/-! SUPPORT. What an instruction can do when it answers a next state, said once: every later case analysis over the
instructions goes through it. -/

namespace Sys2Proof.Machine

/-- An instruction that completes replies and no more, or makes one transaction, or is a command of the arbiter that
has passed its checks, or writes one configuration field. -/
theorem exec_cases {i : Instr} {s t : State} (h : exec i s = .next t) :
    (∃ r, t = s.reply r) ∨
    (∃ id sub mode body, isTransaction i = true ∧ t = s.writeFrame id sub mode body) ∨
    (∃ id sub mode n, isTransaction i = true ∧ t = s.readFrame id sub mode n) ∨
    (∃ code, isTransaction i = true ∧ t = s.fastFrame code) ∨
    (∃ pin level, i = .cxcfg pin level ∧ pinInRange s.params.npins pin = true ∧ s.regs.cxPhase = .idle ∧
      t = s.configure pin (BitVec.ofNat 1 level)) ∨
    (∃ p delayed date, i = .cxstart delayed date ∧ s.regs.cxPin = some p ∧ s.regs.cxPhase = .idle ∧
      t = s.arm p delayed (BitVec.ofNat 32 date)) ∨
    (∃ p, i = .cxstop ∧ s.regs.cxPin = some p ∧ t = s.release p) ∨
    (∃ on, i = .setcrc on ∧ t = (s.setCrcMode on).reply ⟨.ok, .none⟩) ∨
    (∃ rate, i = .setrate rate ∧ t = (s.setRate rate).reply ⟨.ok, .none⟩) := by
  have idle : ∀ {p : Phase}, ¬p = .armed → p = .idle := by intro p hp; cases p <;> simp_all
  cases i
  case cxcfg pin level =>
    simp only [exec, execCxcfg] at h
    split at h
    · cases h; exact .inl ⟨_, rfl⟩
    · rename_i hr
      split at h
      · cases h
      · rename_i hp
        cases h
        simp only [Bool.not_eq_true', Bool.not_eq_false, Bool.and_eq_true] at hr
        exact .inr (.inr (.inr (.inr (.inl ⟨pin, level, rfl, hr.1, idle hp, rfl⟩))))
  case cxstart delayed date =>
    simp only [exec, execCxstart] at h
    split at h
    · cases h; exact .inl ⟨_, rfl⟩
    · split at h
      · cases h; exact .inl ⟨_, rfl⟩
      · rename_i p hp
        split at h
        · cases h
        · rename_i ha
          cases h
          exact .inr (.inr (.inr (.inr (.inr (.inl ⟨p, delayed, date, rfl, hp, idle ha, rfl⟩)))))
  case cxstop =>
    simp only [exec, execCxstop] at h
    cases h
    cases hp : s.regs.cxPin with
    | none => exact .inl ⟨_, rfl⟩
    | some p => exact .inr (.inr (.inr (.inr (.inr (.inr (.inl ⟨p, rfl, rfl, rfl⟩))))))
  case setcrc on => cases h; exact .inr (.inr (.inr (.inr (.inr (.inr (.inr (.inl ⟨on, rfl, rfl⟩)))))))
  case setrate rate => cases h; exact .inr (.inr (.inr (.inr (.inr (.inr (.inr (.inr ⟨rate, rfl, rfl⟩)))))))
  all_goals first
    | (cases h; exact .inr (.inl ⟨_, _, _, _, rfl, rfl⟩))
    | (cases h; exact .inr (.inr (.inl ⟨_, _, _, _, rfl, rfl⟩)))
    | (cases h; exact .inr (.inr (.inr (.inl ⟨_, rfl, rfl⟩))))
    | (cases h; exact .inl ⟨_, rfl⟩)
    | (simp only [exec, execRxdly, execRxtmo, execUus2dtu, execUs2dtu] at h
       repeat' split at h
       all_goals first
         | (cases h; exact .inl ⟨_, rfl⟩)
         | cases h)

end Sys2Proof.Machine
end

