-- ==== Sys2Proof/Laws/PerInstr.lean ====
section
/-! SUPPORT. Per-instruction statements. WordSpace: which of the two encoding spaces an instruction's word is in, and
with which opcode or header mode (30_encoding R74, R80). -/

namespace Sys2Proof.Laws.WordSpace

/-- The word is a command of R80 with this opcode. -/
def IsCommand (opcode : Nat) (w : HostWord) : Prop :=
  opcode ∈ assignedOpcodes ∧ ∃ ports, w = .command (BitVec.ofNat 8 opcode) ports

/-- The word is a transaction of R74 whose bytes begin with a header of this mode. -/
def IsTransaction (mode : Mode) (w : HostWord) : Prop :=
  ∃ id sub body readLen, w = .transaction (encodeHeader mode id sub ++ body) readLen

/-- The word of the instruction is in the encoding space of its opcode-table row. -/
def Statement : Instr → Prop
  | .fastCommand code => IsTransaction .fc (encode (.fastCommand code))
  | .shortRead id n => IsTransaction .sr (encode (.shortRead id n))
  | .shortWrite id body => IsTransaction .sw (encode (.shortWrite id body))
  | .fullRead id sub n => IsTransaction .fr (encode (.fullRead id sub n))
  | .fullWrite id sub body => IsTransaction .fw (encode (.fullWrite id sub body))
  | .maskedWrite8 id sub body => IsTransaction .mw8 (encode (.maskedWrite8 id sub body))
  | .maskedWrite16 id sub body => IsTransaction .mw16 (encode (.maskedWrite16 id sub body))
  | .maskedWrite32 id sub body => IsTransaction .mw32 (encode (.maskedWrite32 id sub body))
  | .enchdr id sub mode => IsCommand 0x01 (encode (.enchdr id sub mode))
  | .dechdr bytes => IsCommand 0x02 (encode (.dechdr bytes))
  | .crc8 bytes init => IsCommand 0x03 (encode (.crc8 bytes init))
  | .wframe id sub mode body => IsCommand 0x04 (encode (.wframe id sub mode body))
  | .rframe id sub mode n => IsCommand 0x05 (encode (.rframe id sub mode n))
  | .fcmd code => IsCommand 0x06 (encode (.fcmd code))
  | .chkw frame crc => IsCommand 0x07 (encode (.chkw frame crc))
  | .packle v w => IsCommand 0x10 (encode (.packle v w))
  | .unpackle bytes => IsCommand 0x11 (encode (.unpackle bytes))
  | .pboost d => IsCommand 0x20 (encode (.pboost d))
  | .rxdly base plen rate sts => IsCommand 0x21 (encode (.rxdly base plen rate sts))
  | .rxtmo base plen rate sts => IsCommand 0x22 (encode (.rxtmo base plen rate sts))
  | .uus2dtu u => IsCommand 0x23 (encode (.uus2dtu u))
  | .us2dtu us => IsCommand 0x24 (encode (.us2dtu us))
  | .dtu2us d => IsCommand 0x25 (encode (.dtu2us d))
  | .dtudiff a b => IsCommand 0x26 (encode (.dtudiff a b))
  | .cxcfg pin level => IsCommand 0x30 (encode (.cxcfg pin level))
  | .cxstart delayed date => IsCommand 0x31 (encode (.cxstart delayed date))
  | .cxstop => IsCommand 0x32 (encode .cxstop)
  | .setcrc on => IsCommand 0x40 (encode (.setcrc on))
  | .setrate rate => IsCommand 0x41 (encode (.setrate rate))

theorem fastCommand (code : Nat) : Statement (.fastCommand code) := ⟨_, _, _, _, rfl⟩
theorem shortRead (id n : Nat) : Statement (.shortRead id n) := ⟨_, _, _, _, rfl⟩
theorem shortWrite (id : Nat) (body : List Nat) : Statement (.shortWrite id body) := ⟨_, _, _, _, rfl⟩
theorem fullRead (id : Nat) (sub : Option Nat) (n : Nat) : Statement (.fullRead id sub n) := ⟨_, _, _, _, rfl⟩
theorem fullWrite (id : Nat) (sub : Option Nat) (body : List Nat) : Statement (.fullWrite id sub body) :=
  ⟨_, _, _, _, rfl⟩
theorem maskedWrite8 (id : Nat) (sub : Option Nat) (body : List Nat) : Statement (.maskedWrite8 id sub body) :=
  ⟨_, _, _, _, rfl⟩
theorem maskedWrite16 (id : Nat) (sub : Option Nat) (body : List Nat) : Statement (.maskedWrite16 id sub body) :=
  ⟨_, _, _, _, rfl⟩
theorem maskedWrite32 (id : Nat) (sub : Option Nat) (body : List Nat) : Statement (.maskedWrite32 id sub body) :=
  ⟨_, _, _, _, rfl⟩
theorem enchdr (id : Nat) (sub : Option Nat) (mode : Nat) : Statement (.enchdr id sub mode) := ⟨by decide, _, rfl⟩
theorem dechdr (bytes : List Nat) : Statement (.dechdr bytes) := ⟨by decide, _, rfl⟩
theorem crc8 (bytes : List Nat) (init : Nat) : Statement (.crc8 bytes init) := ⟨by decide, _, rfl⟩
theorem wframe (id : Nat) (sub : Option Nat) (mode : Nat) (body : List Nat) : Statement (.wframe id sub mode body) :=
  ⟨by decide, _, rfl⟩
theorem rframe (id : Nat) (sub : Option Nat) (mode n : Nat) : Statement (.rframe id sub mode n) := ⟨by decide, _, rfl⟩
theorem fcmd (code : Nat) : Statement (.fcmd code) := ⟨by decide, _, rfl⟩
theorem chkw (frame : List Nat) (crc : Bool) : Statement (.chkw frame crc) := ⟨by decide, _, rfl⟩
theorem packle (v w : Nat) : Statement (.packle v w) := ⟨by decide, _, rfl⟩
theorem unpackle (bytes : List Nat) : Statement (.unpackle bytes) := ⟨by decide, _, rfl⟩
theorem pboost (d : Nat) : Statement (.pboost d) := ⟨by decide, _, rfl⟩
theorem rxdly (base plen : Nat) (rate : DataRate) (sts : Nat) : Statement (.rxdly base plen rate sts) :=
  ⟨by decide, _, rfl⟩
theorem rxtmo (base plen : Nat) (rate : DataRate) (sts : Nat) : Statement (.rxtmo base plen rate sts) :=
  ⟨by decide, _, rfl⟩
theorem uus2dtu (u : Nat) : Statement (.uus2dtu u) := ⟨by decide, _, rfl⟩
theorem us2dtu (us : Nat) : Statement (.us2dtu us) := ⟨by decide, _, rfl⟩
theorem dtu2us (d : Int) : Statement (.dtu2us d) := ⟨by decide, _, rfl⟩
theorem dtudiff (a b : Nat) : Statement (.dtudiff a b) := ⟨by decide, _, rfl⟩
theorem cxcfg (pin : Option Nat) (level : Nat) : Statement (.cxcfg pin level) := ⟨by decide, _, rfl⟩
theorem cxstart (delayed : Bool) (date : Nat) : Statement (.cxstart delayed date) := ⟨by decide, _, rfl⟩
theorem cxstop : Statement .cxstop := ⟨by decide, _, rfl⟩
theorem setcrc (on : Bool) : Statement (.setcrc on) := ⟨by decide, _, rfl⟩
theorem setrate (rate : SpiRate) : Statement (.setrate rate) := ⟨by decide, _, rfl⟩

end Sys2Proof.Laws.WordSpace
end

