-- ==== Sys2Proof/Tests/Slice0.lean ====
section
/-! SUPPORT. Tests: expected values from 95_test_vectors and from the encoding tables of 30_encoding; and, for every
statement with hypotheses, a witness that its hypotheses can be met. -/

namespace Sys2Proof.Tests

open Sys2Proof.Machine Sys2Proof.Spec

/-! ## The states of the tests -/

/-- Tables that meet R172: LUT1[i] = 2i but for LUT1[32] = 68, LUT2[j] = 68 + 3j but for LUT2[13] = 113. -/
def tables : Tables :=
  ⟨(List.range 32).map (fun i => BitVec.ofNat 8 (2 * i)) ++ [68#8],
    (List.range 13).map (fun j => BitVec.ofNat 8 (68 + 3 * j)) ++ [113#8]⟩

/-- The parameters the vectors assume: the defaults, MAX_BODY 64, T = 1000 + 500, NPINS 8. -/
def params : Params := ⟨64, false, 65536, 1248, 5, 1000, 500, 8, .clamp⟩

/-- A session right after reset with these answers to come. -/
def base : State where
  tables := tables
  params := params
  handle := 0
  regs := Record.reset
  events := []
  result := none
  parked := []
  inputs := []
  answers := ⟨⟨[.ok], 0⟩, ⟨[some [0xCA#8, 0xDE#8, 0x02#8, 0x03#8]], 0⟩, ⟨[.ok], 0⟩, ⟨[some 0x1000#32], 0⟩⟩
  gpio := 0x80000000#32
  gpioDir := 0#32

/-- CRC-protected mode. -/
def crcOn : State := base.setCrcMode true

/-- Pin 5 configured, active high. -/
def pinned : State := base.setPin (some 5) 1#1

/-- Pin 5 configured and Armed. -/
def armed : State := pinned.setPhase .armed

/-- The state with other parameters. -/
def withParams (s : State) (p : Params) : State := { s with params := p }

/-- The state with these collaborator answers. -/
def withAnswers (s : State) (a : Answers) : State := { s with answers := a }

/-- Every collaborator fails; a failed GPIO call leaves ones. -/
def failing : Answers := ⟨⟨[.fail], 0⟩, ⟨[none], 0⟩, ⟨[.fail 0xFFFFFFFF#32], 0⟩, ⟨[none], 0⟩⟩

/-- The device time and the GPIO outcome the next calls get. -/
def timeAndGpio (now : Word32) (g : GpioAck) : Answers := ⟨⟨[], 0⟩, ⟨[], 0⟩, ⟨[g], 0⟩, ⟨[some now], 0⟩⟩

/-- The reply the next read gets. -/
def replying (r : Option (List Byte)) : Answers := ⟨⟨[], 0⟩, ⟨[r], 0⟩, ⟨[], 0⟩, ⟨[], 0⟩⟩

/-- The state with these inputs to come. -/
def withInputs (s : State) (l : List HostInput) : State := { s with inputs := l }

def nextOf : Answer → Option State
  | .next t => some t
  | .fault _ => none
  | .refused _ => none

def faultOf : Answer → Option Fault
  | .next _ => none
  | .fault f => some f
  | .refused _ => none

def refusalOf : Answer → Option Refusal
  | .next _ => none
  | .fault _ => none
  | .refused r => some r

/-- The result the host gets. -/
def resultOf (a : Answer) : Option Result := (nextOf a).bind State.result

/-- The events of the history after. -/
def eventsOf (a : Answer) : Option (List Event) := (nextOf a).map State.events

/-- The record S after. -/
def recordOf (a : Answer) : Option Record := (nextOf a).map State.regs

/-! ## Well-formed instructions: an ill-formed term for each check -/

theorem test_wf_refuses_id :
    (Instr.fastCommand 32).wf = false ∧ (Instr.shortRead 32 1).wf = false ∧ (Instr.shortWrite 32 [0]).wf = false ∧
    (Instr.fullRead 32 (some 0) 1).wf = false ∧ (Instr.fullWrite 32 (some 0) [0]).wf = false ∧
    (Instr.enchdr 32 none 1).wf = false ∧ (Instr.wframe 32 none 2 [0]).wf = false ∧
    (Instr.rframe 32 none 1 1).wf = false ∧ (Instr.fcmd 32).wf = false := by decide

theorem test_wf_refuses_sub :
    (Instr.fullRead 0 (some 128) 1).wf = false ∧ (Instr.fullRead 0 none 1).wf = false ∧
    (Instr.maskedWrite8 0 (some 128) [0, 0]).wf = false ∧ (Instr.maskedWrite16 0 none [0, 0, 0, 0]).wf = false ∧
    (Instr.maskedWrite32 0 (some 200) []).wf = false ∧ (Instr.enchdr 0 (some 128) 4).wf = false ∧
    (Instr.wframe 0 (some 128) 4 [0]).wf = false ∧ (Instr.rframe 0 (some 128) 3 1).wf = false := by decide

theorem test_wf_refuses_mode :
    (Instr.enchdr 0 none 8).wf = false ∧ (Instr.wframe 0 none 8 [0]).wf = false ∧
    (Instr.rframe 0 none 8 1).wf = false := by decide

theorem test_wf_refuses_byte :
    (Instr.shortWrite 0 [256]).wf = false ∧ (Instr.fullWrite 0 (some 0) [0, 256]).wf = false ∧
    (Instr.dechdr [256]).wf = false ∧ (Instr.crc8 [256] 0).wf = false ∧ (Instr.crc8 [] 256).wf = false ∧
    (Instr.wframe 0 none 2 [256]).wf = false ∧ (Instr.chkw [256] true).wf = false ∧
    (Instr.unpackle [256]).wf = false ∧ (Instr.unpackle [0, 0, 0, 0, 0, 0, 0, 0, 0]).wf = false := by decide

theorem test_wf_refuses_numbers :
    (Instr.packle 0 9).wf = false ∧ (Instr.packle 18446744073709551616 8).wf = false ∧
    (Instr.pboost 4294967296).wf = false ∧ (Instr.uus2dtu 4294967296).wf = false ∧
    (Instr.us2dtu 4294967296).wf = false ∧ (Instr.dtu2us 2147483648).wf = false ∧
    (Instr.dtu2us (-2147483649)).wf = false ∧ (Instr.dtudiff 4294967296 0).wf = false ∧
    (Instr.dtudiff 0 4294967296).wf = false ∧ (Instr.cxstart true 4294967296).wf = false ∧
    (Instr.cxcfg (some 32) 1).wf = false ∧ (Instr.cxcfg none 2).wf = false := by decide

theorem test_wf_refuses_shape :
    (Instr.rxdly 4294967296 128 .r6m8 0).wf = false ∧ (Instr.rxdly 300 100 .r6m8 0).wf = false ∧
    (Instr.rxdly 300 128 (.other 2) 0).wf = false ∧ (Instr.rxdly 300 128 .r6m8 16).wf = false ∧
    (Instr.rxtmo 4294967296 128 .r6m8 0).wf = false ∧ (Instr.rxtmo 300 96 .r6m8 0).wf = false ∧
    (Instr.rxtmo 300 128 (.other 0) 0).wf = false ∧ (Instr.rxtmo 300 128 .r850k 4096).wf = false := by decide

theorem test_wf_accepts :
    (Instr.wframe 31 (some 127) 7 [255, 0]).wf = true ∧ (Instr.rxdly 4294967295 4096 .r850k 2048).wf = true ∧
    (Instr.dtu2us (-2147483648)).wf = true ∧ (Instr.packle 18446744073709551615 8).wf = true ∧
    (Instr.cxcfg (some 31) 0).wf = true ∧ (Instr.maskedWrite32 31 (some 127) [0, 0, 0, 0, 0, 0, 0, 0]).wf = true := by
  decide

/-! ## Decoding: words written out bit by bit from R70, R71, R74 and R80 -/

/-- 1 0 00010 1: W, L, ID = 2, F (a fast command). -/
theorem test_decode_fastCommand : decode (.transaction [0b10000101#8] none) = .ok (.fastCommand 2) := by rfl

/-- 0 0 11111 0. -/
theorem test_decode_shortRead : decode (.transaction [0b00111110#8] (some 4)) = .ok (.shortRead 31 4) := by rfl

/-- 1 0 00101 0, body [01]. -/
theorem test_decode_shortWrite :
    decode (.transaction [0b10001010#8, 0x01#8] none) = .ok (.shortWrite 5 [1]) := by rfl

/-- 0 1 01010 1, 000001 00: SUB = 1000001. -/
theorem test_decode_fullRead :
    decode (.transaction [0b01010101#8, 0b00000100#8] (some 2)) = .ok (.fullRead 10 (some 0x41) 2) := by rfl

/-- 1 1 10001 1, 111111 00. -/
theorem test_decode_fullWrite :
    decode (.transaction [0b11100011#8, 0b11111100#8, 0xAA#8, 0x55#8] none) =
      .ok (.fullWrite 0x11 (some 0x7F) [0xAA, 0x55]) := by rfl

/-- 1 1 00000 0, 001000 01: M = 01 is 8 bits. -/
theorem test_decode_maskedWrite8 :
    decode (.transaction [0b11000000#8, 0b00100001#8, 0xFE#8, 0x01#8] none) =
      .ok (.maskedWrite8 0 (some 8) [0xFE, 1]) := by rfl

/-- 1 1 00010 1, 000000 10: M = 10 is 16 bits. -/
theorem test_decode_maskedWrite16 :
    decode (.transaction [0b11000101#8, 0b00000010#8, 0#8, 0xFC#8, 5#8, 0#8] none) =
      .ok (.maskedWrite16 2 (some 0x40) [0, 0xFC, 5, 0]) := by rfl

/-- 1 1 11111 0, 000000 11: M = 11 is 32 bits. -/
theorem test_decode_maskedWrite32 :
    decode (.transaction [0b11111110#8, 0b00000011#8, 0xFF#8, 0xFF#8, 0xFF#8, 0x7F#8, 0#8, 0#8, 0#8, 0x80#8] none) =
      .ok (.maskedWrite32 0x1F (some 0) [0xFF, 0xFF, 0xFF, 0x7F, 0, 0, 0, 0x80]) := by rfl

/-- The opcodes of the transport codec (R80). -/
theorem test_decode_transport :
    decode (.command 0x01#8 [.id 0x11, .sub (some 0x7F), .mode 4]) = .ok (.enchdr 0x11 (some 0x7F) 4) ∧
    decode (.command 0x02#8 [.bytes [0xC5, 2, 0x12]]) = .ok (.dechdr [0xC5, 2, 0x12]) ∧
    decode (.command 0x03#8 [.bytes [0x31], .init 0x5A]) = .ok (.crc8 [0x31] 0x5A) ∧
    decode (.command 0x04#8 [.id 5, .sub none, .mode 2, .body [1]]) = .ok (.wframe 5 none 2 [1]) ∧
    decode (.command 0x05#8 [.id 0, .sub none, .mode 1, .n 4]) = .ok (.rframe 0 none 1 4) ∧
    decode (.command 0x06#8 [.code 2]) = .ok (.fcmd 2) ∧
    decode (.command 0x07#8 [.frame [0x8A, 1, 0x33], .crc true]) = .ok (.chkw [0x8A, 1, 0x33] true) := by
  refine ⟨?_, ?_, ?_, ?_, ?_, ?_, ?_⟩ <;> rfl

/-- The opcodes of the timestamp codec and the timing-budget calculator (R80). -/
theorem test_decode_timing :
    decode (.command 0x10#8 [.v 0x1FF, .w 1]) = .ok (.packle 0x1FF 1) ∧
    decode (.command 0x11#8 [.bytes [0x89]]) = .ok (.unpackle [0x89]) ∧
    decode (.command 0x20#8 [.d 500]) = .ok (.pboost 500) ∧
    decode (.command 0x21#8 [.base 300, .plen 512, .rate .r6m8, .sts 64]) = .ok (.rxdly 300 512 .r6m8 64) ∧
    decode (.command 0x22#8 [.base 300, .plen 128, .rate .r850k, .sts 0]) = .ok (.rxtmo 300 128 .r850k 0) ∧
    decode (.command 0x23#8 [.u 800]) = .ok (.uus2dtu 800) ∧
    decode (.command 0x24#8 [.us 1500]) = .ok (.us2dtu 1500) ∧
    decode (.command 0x25#8 [.dSigned (-250)]) = .ok (.dtu2us (-250)) ∧
    decode (.command 0x26#8 [.a 5, .b 6]) = .ok (.dtudiff 5 6) := by
  refine ⟨?_, ?_, ?_, ?_, ?_, ?_, ?_, ?_, ?_⟩ <;> rfl

/-- The opcodes of the arbiter and the configuration (R80). -/
theorem test_decode_control :
    decode (.command 0x30#8 [.pin (some 5), .level 1]) = .ok (.cxcfg (some 5) 1) ∧
    decode (.command 0x31#8 [.delayed true, .date 0x100000]) = .ok (.cxstart true 0x100000) ∧
    decode (.command 0x32#8 []) = .ok .cxstop ∧
    decode (.command 0x40#8 [.on true]) = .ok (.setcrc true) ∧
    decode (.command 0x41#8 [.spiRate .fast]) = .ok (.setrate .fast) := by
  refine ⟨?_, ?_, ?_, ?_, ?_⟩ <;> rfl

/-- Rejections by name: an unassigned opcode, wrong ports, the reserved headers, a truncated one, a read with no length,
a write with one, a fast command with a body. -/
theorem test_decode_rejects :
    decode (.command 0x08#8 []) = .error (.unassignedOpcode 0x08) ∧
    decode (.command 0xFF#8 [.u 0]) = .error (.unassignedOpcode 0xFF) ∧
    decode (.command 0x23#8 [.us 1]) = .error (.malformedPorts 0x23) ∧
    decode (.transaction [0x01#8] none) = .error .reservedHeader ∧
    decode (.transaction [0x40#8, 0x01#8] (some 1)) = .error .reservedHeader ∧
    decode (.transaction [0x41#8] (some 1)) = .error .truncatedHeader ∧
    decode (.transaction [] none) = .error .truncatedHeader ∧
    decode (.transaction [0x3E#8] none) = .error (.malformedTransaction .sr) ∧
    decode (.transaction [0x8A#8, 1#8] (some 1)) = .error (.malformedTransaction .sw) ∧
    decode (.transaction [0x85#8, 0x92#8] none) = .error (.malformedTransaction .fc) := by
  refine ⟨?_, ?_, ?_, ?_, ?_, ?_, ?_, ?_, ?_, ?_⟩ <;> rfl

/-- The rows of the opcode table by their match values. -/
theorem test_table_headers :
    decodeTableWord 8 0x81 = some (.fastCommand 0) ∧ decodeTableWord 8 0x00 = some (.shortRead 0 1) ∧
    decodeTableWord 8 0x80 = some (.shortWrite 0 [0]) ∧ decodeTableWord 16 0x4000 = some (.fullRead 0 (some 0) 1) ∧
    decodeTableWord 16 0xC000 = some (.fullWrite 0 (some 0) [0]) ∧
    decodeTableWord 16 0xC001 = some (.maskedWrite8 0 (some 0) [0, 0]) ∧
    decodeTableWord 16 0xC002 = some (.maskedWrite16 0 (some 0) [0, 0, 0, 0]) ∧
    decodeTableWord 16 0xC003 = some (.maskedWrite32 0 (some 0) [0, 0, 0, 0, 0, 0, 0, 0]) ∧
    decodeTableWord 16 0xFFFF = some (.maskedWrite32 31 (some 127) [0, 0, 0, 0, 0, 0, 0, 0]) := by
  refine ⟨?_, ?_, ?_, ?_, ?_, ?_, ?_, ?_, ?_⟩ <;> rfl

/-- Every assigned opcode is a command's, and the machine runs it as the first instruction after reset. -/
theorem test_table_opcodes :
    assignedOpcodes.map (fun op => (decodeTableWord 8 op).isSome) = List.replicate 21 true ∧
    assignedOpcodes.map (fun op => (nextOf (step (State.reset.withFetchWord 8 op))).isSome) =
      List.replicate 21 true := by
  refine ⟨?_, ?_⟩ <;> rfl

/-- The machine runs every transaction as the first instruction after reset. -/
theorem test_table_transactions :
    [(8, 0x81), (8, 0x00), (8, 0x80), (16, 0x4000), (16, 0xC000), (16, 0xC001), (16, 0xC002), (16, 0xC003)].map
      (fun p => (nextOf (step (State.reset.withFetchWord p.1 p.2))).isSome) = List.replicate 8 true := by rfl

/-! ## Vectors of the transport codec (95_test_vectors L2) -/

theorem test_enchdr_vectors :
    resultOf (exec (.enchdr 0x11 (some 0x7F) 4) base) = some ⟨.ok, .hdr [0xE3#8, 0xFC#8]⟩ ∧
    resultOf (exec (.enchdr 0x0A (some 0x41) 3) base) = some ⟨.ok, .hdr [0x55#8, 0x04#8]⟩ ∧
    resultOf (exec (.enchdr 0x1F (some 0) 7) base) = some ⟨.ok, .hdr [0xFE#8, 0x03#8]⟩ ∧
    resultOf (exec (.enchdr 0x1F none 0) base) = some ⟨.ok, .hdr [0xBF#8]⟩ := by decide

theorem test_enchdr_errors :
    resultOf (exec (.enchdr 0x20 (some 0) 1) base) = some ⟨.argRange, .none⟩ ∧
    resultOf (exec (.enchdr 0 (some 0x80) 4) base) = some ⟨.argRange, .none⟩ ∧
    resultOf (exec (.enchdr 0 (some 0) 1) base) = some ⟨.mode, .none⟩ ∧
    resultOf (exec (.enchdr 0 none 4) base) = some ⟨.mode, .none⟩ ∧
    resultOf (exec (.enchdr 0 (some 0) 0) base) = some ⟨.mode, .none⟩ := by decide

theorem test_dechdr_vectors :
    resultOf (exec (.dechdr [0xC5, 0x02, 0x12, 0x34]) base) = some ⟨.ok, .header 2 (some 0x40) .mw16 2⟩ ∧
    resultOf (exec (.dechdr [0x7F, 0xFC]) base) = some ⟨.ok, .header 0x1F (some 0x7F) .fr 2⟩ ∧
    resultOf (exec (.dechdr [0xBF]) base) = some ⟨.ok, .header 0x1F none .fc 1⟩ ∧
    resultOf (exec (.dechdr [0x3E]) base) = some ⟨.ok, .header 0x1F none .sr 1⟩ := by decide

theorem test_dechdr_errors :
    resultOf (exec (.dechdr []) base) = some ⟨.hdrTruncated, .none⟩ ∧
    resultOf (exec (.dechdr [0xFF]) base) = some ⟨.hdrTruncated, .none⟩ ∧
    resultOf (exec (.dechdr [0x3F]) base) = some ⟨.hdrReserved, .none⟩ ∧
    resultOf (exec (.dechdr [0x7F, 0xFD]) base) = some ⟨.hdrReserved, .none⟩ := by decide

/-- The check value of "123456789", and init returned for the empty sequence. -/
theorem test_crc8_vectors :
    resultOf (exec (.crc8 [0x31, 0x32, 0x33, 0x34, 0x35, 0x36, 0x37, 0x38, 0x39] 0) base) = some ⟨.ok, .crc 0xF4#8⟩ ∧
    resultOf (exec (.crc8 [0xAA, 0x55] 0x86) base) = some ⟨.ok, .crc 0xFE#8⟩ ∧
    resultOf (exec (.crc8 [] 0x5A) base) = some ⟨.ok, .crc 0x5A#8⟩ ∧
    resultOf (exec (.crc8 [] 256) base) = some ⟨.argRange, .none⟩ := by decide

theorem test_wframe_sends :
    resultOf (exec (.wframe 5 none 2 [1]) crcOn) = some ⟨.ok, .frame [0x8A#8, 0x01#8, 0x33#8]⟩ ∧
    eventsOf (exec (.wframe 5 none 2 [1]) crcOn) = some [.spiWriteCrc [0x8A#8] [0x01#8] 0x33#8 .ok] ∧
    resultOf (exec (.wframe 5 none 2 [1]) base) = some ⟨.ok, .frame [0x8A#8, 0x01#8]⟩ ∧
    eventsOf (exec (.wframe 5 none 2 [1]) base) = some [.spiWrite [0x8A#8] [0x01#8] .ok] ∧
    resultOf (exec (.wframe 0 (some 0x24) 6 [0, 0xFC, 5, 0]) crcOn) =
      some ⟨.ok, .frame [0xC0#8, 0x92#8, 0x00#8, 0xFC#8, 0x05#8, 0x00#8, 0x2C#8]⟩ := by decide

theorem test_wframe_errors :
    resultOf (exec (.wframe 1 (some 0) 4 [0x80, 0xC6, 5, 0]) (withAnswers base failing)) =
      some ⟨.hwReject, .frame [0xC2#8, 0x00#8, 0x80#8, 0xC6#8, 0x05#8, 0x00#8]⟩ ∧
    resultOf (exec (.wframe 5 none 1 [1]) base) = some ⟨.mode, .none⟩ ∧
    resultOf (exec (.wframe 5 none 0 []) base) = some ⟨.mode, .none⟩ ∧
    resultOf (exec (.wframe 5 none 2 []) base) = some ⟨.length, .none⟩ ∧
    resultOf (exec (.wframe 0 (some 8) 6 [0xFE, 1]) base) = some ⟨.length, .none⟩ := by decide

theorem test_rframe_reads :
    resultOf (exec (.rframe 0 none 1 4) base) = some ⟨.ok, .data [0xCA#8, 0xDE#8, 0x02#8, 0x03#8]⟩ ∧
    eventsOf (exec (.rframe 0 none 1 4) crcOn) =
      some [.spiRead [0x00#8] 4 (some [0xCA#8, 0xDE#8, 0x02#8, 0x03#8])] ∧
    resultOf (exec (.rframe 1 (some 4) 3 2) (withAnswers base (replying (some [0x12#8, 0x34#8])))) =
      some ⟨.ok, .data [0x12#8, 0x34#8]⟩ := by decide

theorem test_rframe_errors :
    resultOf (exec (.rframe 0 none 1 4) (withAnswers base (replying (some [0xCA#8])))) = some ⟨.shortRead, .none⟩ ∧
    resultOf (exec (.rframe 0 none 1 3) base) = some ⟨.longRead, .none⟩ ∧
    resultOf (exec (.rframe 0 none 1 4) (withAnswers base failing)) = some ⟨.hwReject, .none⟩ ∧
    resultOf (exec (.rframe 0 none 1 0) base) = some ⟨.length, .none⟩ ∧
    resultOf (exec (.rframe 0 (some 0) 1 4) base) = some ⟨.mode, .none⟩ ∧
    resultOf (exec (.rframe 0 none 2 4) base) = some ⟨.mode, .none⟩ := by decide

theorem test_fcmd_vectors :
    resultOf (exec (.fcmd 2) crcOn) = some ⟨.ok, .frame [0x85#8]⟩ ∧
    resultOf (exec (.fcmd 2) (withParams crcOn { params with fastcmdCrc := true })) =
      some ⟨.ok, .frame [0x85#8, 0x92#8]⟩ ∧
    resultOf (exec (.fcmd 0x20) base) = some ⟨.argRange, .none⟩ := by decide

theorem test_chkw_accepts :
    resultOf (exec (.chkw [0xE3, 0xFC, 0xAA, 0x55, 0xFE] true) base) =
      some ⟨.ok, .received 0x11 (some 0x7F) .fw [0xAA#8, 0x55#8]⟩ ∧
    resultOf (exec (.chkw [0x8A, 1, 0x33] false) base) = some ⟨.ok, .received 5 none .sw [0x01#8, 0x33#8]⟩ ∧
    resultOf (exec (.chkw [0x85] false) base) = some ⟨.ok, .received 2 none .fc []⟩ := by decide

theorem test_chkw_rejects :
    resultOf (exec (.chkw [0xE3, 0xFC, 0xAB, 0x55, 0xFE] true) base) = some ⟨.crcMismatch, .none⟩ ∧
    resultOf (exec (.chkw [0x63, 0xFC, 0xAA, 0x55, 0xFE] true) base) = some ⟨.mode, .none⟩ ∧
    resultOf (exec (.chkw [0x8A] true) base) = some ⟨.length, .none⟩ ∧
    resultOf (exec (.chkw [0x8A, 0xBF] true) base) = some ⟨.length, .none⟩ ∧
    resultOf (exec (.chkw [0xC0, 0x21, 0xFE, 0x47] true) base) = some ⟨.crcMismatch, .none⟩ ∧
    resultOf (exec (.chkw [0x85, 0x92] true) base) = some ⟨.length, .none⟩ ∧
    resultOf (exec (.chkw [0x40, 0x01] true) base) = some ⟨.hdrReserved, .none⟩ := by decide

/-! ## The transactions (R100 to R107: the example of each rule) -/

theorem test_fastCommand_sends :
    eventsOf (exec (.fastCommand 31) base) = some [.spiWrite [0xBF#8] [] .ok] := by decide

theorem test_shortRead_reads :
    eventsOf (exec (.shortRead 0x1F 4) base) =
      some [.spiRead [0x3E#8] 4 (some [0xCA#8, 0xDE#8, 0x02#8, 0x03#8])] := by decide

theorem test_shortWrite_sends :
    resultOf (exec (.shortWrite 5 [1]) crcOn) = some ⟨.ok, .frame [0x8A#8, 0x01#8, 0x33#8]⟩ := by decide

theorem test_fullRead_reads :
    eventsOf (exec (.fullRead 1 (some 4) 4) base) =
      some [.spiRead [0x42#8, 0x10#8] 4 (some [0xCA#8, 0xDE#8, 0x02#8, 0x03#8])] ∧
    resultOf (exec (.fullRead 1 none 4) base) = some ⟨.mode, .none⟩ := by decide

theorem test_fullWrite_sends :
    resultOf (exec (.fullWrite 0x11 (some 0x7F) [0xAA, 0x55]) crcOn) =
      some ⟨.ok, .frame [0xE3#8, 0xFC#8, 0xAA#8, 0x55#8, 0xFE#8]⟩ ∧
    resultOf (exec (.fullWrite 0x11 none [0xAA]) crcOn) = some ⟨.mode, .none⟩ := by decide

theorem test_maskedWrite8_sends :
    resultOf (exec (.maskedWrite8 0 (some 8) [0xFE, 1]) crcOn) =
      some ⟨.ok, .frame [0xC0#8, 0x21#8, 0xFE#8, 0x01#8, 0x47#8]⟩ ∧
    resultOf (exec (.maskedWrite8 0 (some 8) [0xFE]) crcOn) = some ⟨.length, .none⟩ := by decide

theorem test_maskedWrite16_sends :
    resultOf (exec (.maskedWrite16 0 (some 0x24) [0, 0xFC, 5, 0]) crcOn) =
      some ⟨.ok, .frame [0xC0#8, 0x92#8, 0x00#8, 0xFC#8, 0x05#8, 0x00#8, 0x2C#8]⟩ := by decide

theorem test_maskedWrite32_sends :
    resultOf (exec (.maskedWrite32 0x1F (some 0) [0xFF, 0xFF, 0xFF, 0x7F, 0, 0, 0, 0x80]) crcOn) =
      some ⟨.ok, .frame [0xFE#8, 0x03#8, 0xFF#8, 0xFF#8, 0xFF#8, 0x7F#8, 0#8, 0#8, 0#8, 0x80#8, 0xD9#8]⟩ := by decide

/-! ## Timestamps -/

theorem test_packle_vectors :
    resultOf (exec (.packle 0x0123456789 5) base) = some ⟨.ok, .bytes [0x89#8, 0x67#8, 0x45#8, 0x23#8, 0x01#8]⟩ ∧
    resultOf (exec (.packle 0x10000000000 5) base) = some ⟨.ok, .bytes [0#8, 0#8, 0#8, 0#8, 0#8]⟩ ∧
    resultOf (exec (.packle 0x1FF 1) base) = some ⟨.ok, .bytes [0xFF#8]⟩ ∧
    resultOf (exec (.packle 1 9) base) = some ⟨.argRange, .none⟩ := by decide

theorem test_unpackle_vectors :
    resultOf (exec (.unpackle [0x89, 0x67, 0x45, 0x23, 0x01]) base) = some ⟨.ok, .value 0x0123456789#64⟩ ∧
    resultOf (exec (.unpackle [0, 0, 0, 0, 0x80]) base) = some ⟨.ok, .value 0x8000000000#64⟩ ∧
    resultOf (exec (.unpackle []) base) = some ⟨.ok, .value 0#64⟩ ∧
    resultOf (exec (.unpackle [0, 0, 0, 0, 0, 0, 0, 0, 0]) base) = some ⟨.argRange, .none⟩ := by decide

/-! ## Budgets and conversions -/

/-- The index column of the PBOOST vectors, through LUT1[i] = 2i and LUT2[j] = 68 + 3j. -/
theorem test_pboost_indices :
    [1000, 988, 987, 962, 500, 213, 212].map (fun d => resultOf (exec (.pboost d) base)) =
      [0#8, 0#8, 2#8, 4#8, 40#8, 62#8, 68#8].map (fun b => some ⟨.ok, .boost b⟩) := by decide

/-- The ties of LUT2 go to the larger index (R173). -/
theorem test_pboost_ties :
    [200, 196, 195, 186, 185, 75, 70, 69, 0].map (fun d => resultOf (exec (.pboost d) base)) =
      [68#8, 68#8, 71#8, 71#8, 74#8, 113#8, 113#8, 113#8, 113#8].map (fun b => some ⟨.ok, .boost b⟩) := by decide

theorem test_rxdly_vectors :
    resultOf (exec (.rxdly 3000 1024 .r6m8 128) base) = some ⟨.ok, .delay 2104 538624 false⟩ ∧
    resultOf (exec (.rxdly 3000 4096 .r850k 0) base) = some ⟨.ok, .delay 952 243712 false⟩ ∧
    resultOf (exec (.rxdly 32 32 .r6m8 0) base) = some ⟨.ok, .delay 0 0 false⟩ ∧
    resultOf (exec (.rxdly 31 32 .r6m8 2048) base) = some ⟨.ok, .delay 2048 524288 true⟩ := by decide

theorem test_rxdly_stops :
    faultOf (exec (.rxdly 300 512 .r6m8 0) (withParams base { params with underflowPolicy := .fault })) =
      some .budgetUnderflow ∧
    faultOf (exec (.rxdly 4294967295 32 .r6m8 0) base) = some .rangeOverflow ∧
    resultOf (exec (.rxdly 300 100 .r6m8 0) base) = some ⟨.argRange, .none⟩ := by decide

theorem test_rxtmo_vectors :
    resultOf (exec (.rxtmo 300 128 .r6m8 0) base) = some ⟨.ok, .timeout 800 204800 false⟩ ∧
    resultOf (exec (.rxtmo 300 1024 .r850k 128) base) = some ⟨.ok, .timeout 2024 518144 false⟩ ∧
    resultOf (exec (.rxtmo 0 4096 .r850k 2048) base) = some ⟨.ok, .timeout 6716 1719296 false⟩ ∧
    faultOf (exec (.rxtmo 4294967295 32 .r6m8 0) base) = some .rangeOverflow := by decide

theorem test_uus2dtu_vectors :
    resultOf (exec (.uus2dtu 16777215) base) = some ⟨.ok, .dtu 0xFFFFFF00⟩ ∧
    faultOf (exec (.uus2dtu 16777216) base) = some .rangeOverflow ∧
    resultOf (exec (.uus2dtu 800) (withParams base { params with uusToDtuK := 63898 })) = some ⟨.ok, .dtu 199681⟩ := by
  decide

theorem test_us2dtu_vectors :
    resultOf (exec (.us2dtu 4) base) = some ⟨.ok, .dtu 998⟩ ∧
    resultOf (exec (.us2dtu 17207401) base) = some ⟨.ok, .dtu 4294967289⟩ ∧
    faultOf (exec (.us2dtu 17207402) base) = some .rangeOverflow := by decide

theorem test_dtu2us_vectors :
    resultOf (exec (.dtu2us 249) base) = some ⟨.ok, .us 0⟩ ∧
    resultOf (exec (.dtu2us (-250)) base) = some ⟨.ok, .us (-1)⟩ ∧
    resultOf (exec (.dtu2us (-2147483648)) base) = some ⟨.ok, .us (-8603700)⟩ := by decide

theorem test_dtudiff_vectors :
    resultOf (exec (.dtudiff 0x00100000 0xFFFFFF00) base) = some ⟨.ok, .diff 1048832⟩ ∧
    resultOf (exec (.dtudiff 0xFFFFFFAC 0x10) base) = some ⟨.ok, .diff (-100)⟩ ∧
    resultOf (exec (.dtudiff 0x90000000 0x10000000) base) = some ⟨.ok, .diff (-2147483648)⟩ := by decide

/-! ## The arbiter and the configuration -/

/-- Rows 1, 2, 5 and 7 of Table X1. -/
theorem test_cxstart_schedules :
    resultOf (exec (.cxstart false 0) pinned) = some ⟨.ok, .schedule true 0x0005C680#32 0⟩ ∧
    resultOf (exec (.cxstart false 0x12345678) (withAnswers pinned (timeAndGpio 0xFFFFFFF0#32 .ok))) =
      some ⟨.ok, .schedule true 0x0005B670#32 0⟩ ∧
    eventsOf (exec (.cxstart true 0x0005C77A) pinned) =
      some [.devTime (some 0x1000#32), .sleep 1, .gpioSet 0x20#32 0x20#32 .ok] ∧
    resultOf (exec (.cxstart true 0x00100000) (withAnswers pinned (timeAndGpio 0xFFFFFF00#32 .ok))) =
      some ⟨.ok, .schedule true 0x00100000#32 2702⟩ := by decide

/-- Without a pin, while Armed, and when the GPIO write fails. -/
theorem test_cxstart_corners :
    resultOf (exec (.cxstart false 0x1234) base) = some ⟨.ok, .schedule false 0x1234#32 0⟩ ∧
    faultOf (exec (.cxstart false 0) armed) = some .coexReentry ∧
    resultOf (exec (.cxstart false 0) (withAnswers pinned (timeAndGpio 0x1000#32 (.fail 0#32)))) =
      some ⟨.hwReject, .schedule true 0x0005C680#32 0⟩ ∧
    (recordOf (exec (.cxstart false 0) (withAnswers pinned (timeAndGpio 0x1000#32 (.fail 0#32))))).map
      (fun r => (r.cxPhase, r.cxLastNow)) = some (.idle, some 0x1000#32) := by decide

theorem test_cxstop_releases :
    eventsOf (exec .cxstop armed) = some [.gpioSet 0x20#32 0x00#32 .ok] ∧
    (recordOf (exec .cxstop armed)).map Record.cxPhase = some .idle ∧
    resultOf (exec .cxstop (withAnswers armed failing)) = some ⟨.hwReject, .none⟩ ∧
    eventsOf (exec .cxstop (base.setPin (some 3) 0#1)) = some [.gpioSet 0x08#32 0x08#32 .ok] := by decide

theorem test_cxcfg_vectors :
    eventsOf (exec (.cxcfg (some 5) 1) base) = some [.gpioConfig 0x20#32 .ok] ∧
    (recordOf (exec (.cxcfg none 0) base)).map (fun r => (r.cxPin, r.cxActiveLevel)) = some (none, 0#1) ∧
    faultOf (exec (.cxcfg (some 6) 1) armed) = some .configWhileArmed ∧
    resultOf (exec (.cxcfg (some 8) 1) base) = some ⟨.argRange, .none⟩ ∧
    resultOf (exec (.cxcfg (some 5) 2) base) = some ⟨.argRange, .none⟩ := by decide

theorem test_setcrc_sets :
    recordOf (exec (.setcrc true) base) = some { Record.reset with crcWriteMode := true } := by decide

theorem test_setrate_sets :
    recordOf (exec (.setrate .fast) base) = some { Record.reset with spiRate := .fast } := by decide

/-! ## Pseudo-commands and the written form (R83, R84) -/

theorem test_expand_choices :
    expand (.read 5 0 4) = .rframe 5 none 1 4 ∧ expand (.read 5 4 2) = .rframe 5 (some 4) 3 2 ∧
    expand (.write 5 0 [1]) = .wframe 5 none 2 [1] ∧ expand (.write 5 1 [1]) = .wframe 5 (some 1) 4 [1] ∧
    expand (.modify16 0 0x24 0xFC00 0x0005) = .wframe 0 (some 0x24) 6 [0x00, 0xFC, 0x05, 0x00] := by decide

/-- The example of R83. -/
theorem test_asm_example :
    asm (.wframe 0x11 (some 0x7F) 4 [0xAA, 0x55]) = some "WFRAME 0x11, 0x7F, FW, [AA 55]" := by decide

/-! ## Witnesses: the hypotheses of each statement can be met, at the edges of their ranges -/

/-- R251: the codes are numbered 0 to 9 in the order of the table. -/
theorem test_codeNumbers :
    [Code.ok, .crcMismatch, .shortRead, .longRead, .hdrTruncated, .hdrReserved, .argRange, .mode, .length,
      .hwReject].map codeNumber = List.range 10 := by decide

/-- A reset while Armed. -/
theorem witness_ResetGivesEveryFieldItsValue : (withInputs armed [.reset 0]).inputs = .reset 0 :: [] := by decide

/-- A reset of another device, with a second input behind it. -/
theorem witness_ResetTouchesNoCollaborator :
    (withInputs armed [.reset 7, .reset 0]).inputs = .reset 7 :: [.reset 0] := by decide

theorem witness_WaitsForTheHost : base.inputs = [] := by decide

/-- A word for the selected device and one for another device. -/
theorem witness_StepRunsTheDecodedWord :
    ((withInputs armed [.issue 0 (.command 0x32#8 [])]).inputs = .issue 0 (.command 0x32#8 []) :: [] ∧
      decode (.command 0x32#8 []) = .ok .cxstop) ∧
    ((withInputs armed [.issue 9 (.transaction [0x85#8] none)]).inputs = .issue 9 (.transaction [0x85#8] none) :: [] ∧
      decode (.transaction [0x85#8] none) = .ok (.fastCommand 2)) := by
  refine ⟨⟨?_, ?_⟩, ⟨?_, ?_⟩⟩ <;> rfl

/-- The three opcodes of the vectors, and the step that refuses one. -/
theorem witness_UnassignedOpcodesAreRefused :
    (∀ op ∈ [0x00#8, 0x08#8, 0x27#8, 0x42#8, 0xFF#8],
      op.toNat ∉ [1, 2, 3, 4, 5, 6, 7, 16, 17, 32, 33, 34, 35, 36, 37, 38, 48, 49, 50, 64, 65]) ∧
    refusalOf (step (withInputs base [.issue 0 (.command 0x27#8 [])])) = some (.unassignedOpcode 0x27) := by decide

/-- A state of two devices, one of them Armed, from which a command leads to a next state. Device 3 has its own
parameters, answers and pins. -/
def twoDevices : State :=
  { withInputs pinned [.issue 3 (.command 0x32#8 [])] with
    parked := [(3, ⟨{ Record.reset with cxPin := some 2, cxPhase := .armed }, [], none, { params with npins := 3 },
      timeAndGpio 0#32 .ok, 0x00000024#32, 0x00000004#32⟩)] }

theorem witness_StepKeepsTheInvariant : twoDevices.Inv ∧ ∃ t, step twoDevices = .next t := by
  refine ⟨⟨by decide, ⟨by decide, by decide, by decide, ?_⟩, ?_, by decide⟩, _, rfl⟩
  · intro now h
    cases h
  · intro e he
    obtain rfl := List.mem_singleton.1 he
    refine ⟨by decide, by decide, by decide, ?_⟩
    intro now h
    cases h

/-- R39: CXSTOP of device 3 clears bit 2 of its own GPIO register; device 0 keeps its register and its answers. -/
theorem test_devicesHaveTheirOwnPins :
    (nextOf (step twoDevices)).map (fun t => (t.gpio, (t.session 0).gpio, (t.session 0).answers.gpio.listed)) =
      some (0x00000020#32, 0x80000000#32, [.ok]) := by decide

theorem witness_DevicesAreIsolated :
    (∃ w, twoDevices.inputs = .issue 3 w :: []) ∧ (∃ t, step twoDevices = .next t) ∧ (0 : Nat) ≠ 3 ∧
    (∃ t, step (withInputs armed [.reset 4]) = .next t) ∧ (0 : Nat) ≠ 4 :=
  ⟨⟨_, rfl⟩, ⟨_, rfl⟩, by decide, ⟨_, rfl⟩, by decide⟩

/-- Two states that differ in device 0 and agree on device 3, which the input names; an outcome of each kind, and a reset. -/
theorem witness_DevicesNeverReadEachOther :
    twoDevices.inputs = .issue 3 (.command 0x32#8 []) :: [] ∧
    (twoDevices.setPhase .armed).inputs = .issue 3 (.command 0x32#8 []) :: [] ∧
    (twoDevices.setPhase .armed).tables = twoDevices.tables ∧
    (twoDevices.setPhase .armed).session 3 = twoDevices.session 3 ∧ (twoDevices.setPhase .armed) ≠ twoDevices ∧
    (∃ t, step twoDevices = .next t) ∧
    step (withInputs twoDevices [.issue 3 (.command 0x31#8 [.delayed false, .date 0])]) = .fault .coexReentry ∧
    step (withInputs twoDevices [.issue 3 (.command 0x27#8 [])]) = .refused (.unassignedOpcode 0x27) ∧
    (∃ t, step (withInputs twoDevices [.reset 3]) = .next t) :=
  ⟨rfl, rfl, rfl, rfl, by decide, ⟨_, rfl⟩, rfl, rfl, _, rfl⟩

/-- An instruction of each kind answers a next state. -/
theorem witness_HistoryOnlyGrows :
    (∃ t, exec (.wframe 5 none 2 [1]) base = .next t) ∧ (∃ t, exec (.cxstart true 0x0005C77A) pinned = .next t) ∧
    (∃ t, exec (.enchdr 32 none 0) base = .next t) := ⟨⟨_, rfl⟩, ⟨_, rfl⟩, ⟨_, rfl⟩⟩

/-- Errors of each of the three kinds: one that leaves the record, CXSTART's and CXSTOP's. -/
theorem witness_ErrorsLeaveTheRecord :
    resultOf (exec (.wframe 5 none 2 []) base) = some ⟨.length, .none⟩ ∧
    resultOf (exec (.cxstart false 0) (withAnswers pinned (timeAndGpio 0#32 (.fail 0#32)))) =
      some ⟨.hwReject, .schedule true 0x5B680#32 0⟩ ∧
    resultOf (exec .cxstop (withAnswers armed failing)) = some ⟨.hwReject, .none⟩ := by decide

theorem witness_PureCommandsChangeOnlyTheResult :
    (isPure (.rxtmo 300 128 .r6m8 0) = true ∧ ∃ t, exec (.rxtmo 300 128 .r6m8 0) base = .next t) ∧
    (isPure (.chkw [0x8A] true) = true ∧ ∃ t, exec (.chkw [0x8A] true) armed = .next t) ∧
    armed.params = base.params ∧ armed.tables = base.tables := ⟨⟨rfl, _, rfl⟩, ⟨rfl, _, rfl⟩, rfl, rfl⟩

theorem witness_RateAndLastNowAreNeverRead :
    (∃ t, exec (.cxstart false 0) pinned = .next t) ∧ exec (.cxstart false 0) armed = .fault .coexReentry :=
  ⟨⟨_, rfl⟩, rfl⟩

/-- One operand of each port kind of R82, just out of its range. -/
theorem witness_OperandsOutOfRangeAreRefused :
    ¬OperandsInRange (.enchdr 32 none 1) ∧ ¬OperandsInRange (.fullRead 0 (some 128) 1) ∧
    ¬OperandsInRange (.rframe 0 none 8 1) ∧ ¬OperandsInRange (.fastCommand 32) ∧ ¬OperandsInRange (.dechdr [256]) ∧
    ¬OperandsInRange (.crc8 [] 256) ∧ ¬OperandsInRange (.packle 0 9) ∧ ¬OperandsInRange (.packle (2 ^ 64) 8) ∧
    ¬OperandsInRange (.uus2dtu (2 ^ 32)) ∧ ¬OperandsInRange (.rxdly (2 ^ 32) 32 .r6m8 0) ∧
    ¬OperandsInRange (.cxstart true (2 ^ 32)) := by
  simp [OperandsInRange, SubLegal, AreBytes]

theorem witness_DecodeOfEncodeIsTheInstruction :
    (Instr.fullWrite 31 (some 127) [255]).wf = true ∧ (Instr.wframe 31 (some 127) 7 []).wf = true ∧
    (Instr.rxdly 4294967295 4096 .r850k 2048).wf = true ∧ (Instr.cxcfg (some 31) 1).wf = true ∧
    (Instr.dtu2us (-2147483648)).wf = true := by decide

theorem witness_DecodedWordsAreEncodings :
    decode (.transaction [0xFF#8, 0xFF#8, 1#8] none) = .ok (.maskedWrite32 31 (some 127) [1]) ∧
    decode (.command 0x03#8 [.bytes [300], .init 256]) = .ok (.crc8 [300] 256) := ⟨rfl, rfl⟩

/-- Both lengths, with a reserved pattern and without. -/
theorem witness_ReservedHeadersAreTheTwoPatterns :
    ((0x3F#8).toNat / 64 % 2 = 0 ∧ (0x3F#8).toNat / 128 = 0 ∧ (0x3F#8).toNat % 2 = 1) ∧
    ((0xBF#8).toNat / 64 % 2 = 0 ∧ ¬((0xBF#8).toNat / 128 = 0 ∧ (0xBF#8).toNat % 2 = 1)) ∧
    ((0x7F#8).toNat / 64 % 2 = 1 ∧ (0x7F#8).toNat / 128 = 0 ∧ (0xFD#8).toNat % 4 ≠ 0) ∧
    ((0xFF#8).toNat / 64 % 2 = 1 ∧ ¬((0xFF#8).toNat / 128 = 0 ∧ (0xFF#8).toNat % 4 ≠ 0)) := by decide

theorem witness_HeaderLengthFollowsBit6 :
    decodeHeader [0xBF#8] = .ok ⟨31, none, .fc, 1⟩ ∧ decodeHeader [0xFF#8, 0xFF#8] = .ok ⟨31, some 127, .mw32, 2⟩ :=
  ⟨rfl, rfl⟩

theorem witness_HeaderCodecRoundTrips :
    resultOf (exec (.enchdr 31 (some 127) 7) base) = some ⟨.ok, .hdr [0xFF#8, 0xFF#8]⟩ ∧
    resultOf (exec (.enchdr 0 none 1) base) = some ⟨.ok, .hdr [0x00#8]⟩ ∧
    resultOf (exec (.dechdr [0xFF, 0xFF, 9]) base) = some ⟨.ok, .header 31 (some 127) .mw32 2⟩ ∧
    resultOf (exec (.dechdr [0x00]) base) = some ⟨.ok, .header 0 none .sr 1⟩ := by decide

/-- The five clauses at the edges of id, mode and sub-address. -/
theorem witness_EnchdrGivesTheHeader :
    (¬(32 ≤ 31 ∧ 1 ≤ 7 ∧ SubLegal none) ∧ ¬(31 ≤ 31 ∧ 8 ≤ 7 ∧ SubLegal none) ∧
      ¬(31 ≤ 31 ∧ 7 ≤ 7 ∧ SubLegal (some 128))) ∧
    (31 ≤ 31 ∧ 2 ≤ 2 ∧ SubLegal (some 127) ∧ some 127 ≠ (none : Option Nat)) ∧
    (31 ≤ 31 ∧ 3 ≤ 3 ∧ 3 ≤ 7 ∧ 3 ≤ 7 ∧ 7 ≤ 7) ∧
    resultOf (exec (.enchdr 31 none 2) base) = some ⟨.ok, .hdr (shortHeader 1 31 0)⟩ ∧
    resultOf (exec (.enchdr 31 (some 127) 3) base) = some ⟨.ok, .hdr (longHeader 0 31 127 0)⟩ ∧
    resultOf (exec (.enchdr 31 (some 127) 4) base) = some ⟨.ok, .hdr (longHeader 1 31 127 0)⟩ := by
  refine ⟨?_, ?_, by decide, by decide, by decide, by decide⟩ <;> simp [SubLegal]

/-- The clauses on byte 0 at 0x3F, 0xBF, 0xBE, 0x3E, and on two bytes at 0x7F and 0xFF. -/
theorem witness_DechdrReadsTheHeader :
    (AreBytes [0x3F] ∧ 0x3F / 64 % 2 = 0 ∧ 0x3F % 2 = 1 ∧ 0x3F < 128) ∧
    (AreBytes [0xBF] ∧ 0xBF / 64 % 2 = 0 ∧ 0xBF % 2 = 1 ∧ 128 ≤ 0xBF) ∧
    (AreBytes [0x80] ∧ 0x80 / 64 % 2 = 0 ∧ 0x80 % 2 = 0 ∧ 128 ≤ 0x80) ∧
    (AreBytes [0x3E] ∧ 0x3E / 64 % 2 = 0 ∧ 0x3E % 2 = 0 ∧ 0x3E < 128) ∧
    (0xFF ≤ 255 ∧ 0xFF / 64 % 2 = 1) ∧
    (AreBytes [0x7F, 0xFD] ∧ 0x7F / 64 % 2 = 1 ∧ 0x7F < 128 ∧ 0xFD % 4 ≠ 0) ∧
    (AreBytes [0x7F, 0xFC] ∧ 0x7F < 128 ∧ 0xFC % 4 = 0) ∧
    (AreBytes [0xC0, 0xFF] ∧ 0xC0 / 64 % 2 = 1 ∧ 128 ≤ 0xC0) := by
  simp [AreBytes]

theorem witness_Crc8FoldsTheTable :
    ¬(AreBytes [256] ∧ 0 ≤ 255) ∧ ¬(AreBytes [] ∧ 256 ≤ 255) ∧ AreBytes [0, 255] ∧ 255 ≤ 255 := by
  simp [AreBytes]

theorem witness_CrcSeesEverySingleBit : [0x80#8, 0x01#8][1]? = some 0x01#8 ∧ 7 < 8 := by decide

/-- The range clause, the mode clauses, and the length clause with its complement for SW and MW32. -/
theorem witness_WframeSendsOneFrame :
    (¬(32 ≤ 31 ∧ 2 ≤ 7 ∧ SubLegal none) ∧ ¬(31 ≤ 31 ∧ 8 ≤ 7 ∧ SubLegal none)) ∧
    (31 ≤ 31 ∧ 7 ≤ 7 ∧ SubLegal (some 127) ∧ AreBytes [255]) ∧
    (WriteHeader 2 31 none (shortHeader 1 31 0) ∧ ¬BodyLegal 64 2 0 ∧ BodyLegal 64 2 1 ∧ BodyLegal 64 2 64 ∧
      ¬BodyLegal 64 2 65) ∧
    (WriteHeader 7 31 (some 127) (longHeader 1 31 127 3) ∧ ¬BodyLegal 64 7 7 ∧ BodyLegal 64 7 8) := by
  simp [SubLegal, AreBytes, WriteHeader, BodyLegal]

/-- The clauses of RFRAME; the last at n = MAX_BODY = 64 and beyond it. -/
theorem witness_RframeReadsExactly :
    ¬(32 ≤ 31 ∧ 1 ≤ 7 ∧ SubLegal none) ∧ (31 ≤ 31 ∧ 3 ≤ 7 ∧ SubLegal (some 127)) ∧ SubLegal none ∧
    (¬(1 ≤ 0 ∧ 0 ≤ base.params.maxBody) ∧ ¬(1 ≤ 65 ∧ 65 ≤ base.params.maxBody)) ∧
    (1 ≤ 64 ∧ 64 ≤ base.params.maxBody) ∧ (1 ≤ 1 ∧ 1 ≤ base.params.maxBody) := by
  simp [SubLegal, base, params]

/-- The three verdicts on a reply, of two bytes when n is 3, 1 and 2. -/
theorem witness_readResult :
    readResult 3 (some [1#8, 2#8]) ⟨.shortRead, .none⟩ ∧ readResult 1 (some [1#8, 2#8]) ⟨.longRead, .none⟩ ∧
    readResult 2 (some [1#8, 2#8]) ⟨.ok, .data [1#8, 2#8]⟩ ∧ readResult 2 none ⟨.hwReject, .none⟩ := by
  simp [readResult]

theorem witness_FcmdSendsOneByte : 31 < 32 ∧ 31 ≤ 31 := by decide

theorem witness_WriteTransactionsComplete :
    31 ≤ 31 ∧ 127 ≤ 127 ∧ AreBytes (List.replicate 64 255) ∧ 1 ≤ (List.replicate 64 255).length ∧
    (List.replicate 64 255).length ≤ base.params.maxBody ∧ AreBytes [0, 255] ∧ [0, 255].length = 2 ∧
    AreBytes [0, 255, 0, 255] ∧ [0, 255, 0, 255].length = 4 ∧ AreBytes (List.replicate 8 0) ∧
    (List.replicate 8 0).length = 8 := by
  simp [AreBytes, base, params]

theorem witness_ReadTransactionsComplete :
    31 ≤ 31 ∧ 127 ≤ 127 ∧ 1 ≤ 64 ∧ 64 ≤ base.params.maxBody := by decide

theorem witness_TransactionsLeaveTheRecord :
    isTransaction (.shortWrite 5 [1]) = true ∧ (∃ t, exec (.shortWrite 5 [1]) crcOn = .next t) ∧
    isTransaction (.rframe 32 none 1 4) = true ∧ ∃ t, exec (.rframe 32 none 1 4) base = .next t :=
  ⟨rfl, ⟨_, rfl⟩, rfl, ⟨_, rfl⟩⟩

theorem witness_ModifySendsBothMasks :
    31 ≤ 31 ∧ 127 ≤ 127 ∧ 255 < 2 ^ 8 ∧ 65535 < 2 ^ 16 ∧ 4294967295 < 2 ^ 32 := by decide

/-- A frame with its CRC byte, one without, and what CHKW says of them. -/
theorem witness_ChkwAcceptsExactlyTheGoodFrames :
    (17 ≤ 31 ∧ WriteHeader (codeOfMode .fw) 17 (some 127) [0xE3#8, 0xFC#8] ∧ BodyLegal 64 (codeOfMode .fw) 2) ∧
    (31 ≤ 31 ∧ WriteHeader (codeOfMode .fc) 31 none [0xBF#8] ∧ BodyLegal 64 (codeOfMode .fc) 0) ∧
    exec (.chkw (ofBytes [0xE3#8, 0xFC#8, 0xAA#8, 0x55#8, 0xFE#8]) true) base =
      answered base (.received 17 (some 127) .fw [0xAA#8, 0x55#8]) := by
  refine ⟨?_, ?_, rfl⟩
  · simp [WriteHeader, codeOfMode, BodyLegal, longHeader, headerWord]
  · simp [WriteHeader, codeOfMode, BodyLegal, shortHeader]

/-- Each verdict: header errors, a read header, too short, a wrong CRC byte, a right one with an empty body and with a
legal one, and bodies of a wrong and of a right length where no CRC byte is expected. -/
theorem witness_ChkwOrdersItsVerdicts :
    exec (.dechdr (ofBytes [])) base = failed base .hdrTruncated ∧
    exec (.dechdr (ofBytes [0x00#8])) base = answered base (.header 0 none .sr 1) ∧
    exec (.dechdr (ofBytes [0x8A#8])) base = answered base (.header 5 none .sw 1) ∧ [0x8A#8].length < 1 + 1 ∧
    ([0x8A#8, 0x00#8] = [0x8A#8] ++ [0x00#8] ∧ 1 ≤ [0x8A#8].length ∧ crc8 [0x8A#8] 0#8 ≠ 0x00#8) ∧
    (crc8 [0x8A#8] 0#8 = 0xBF#8 ∧ ¬BodyLegal base.params.maxBody (codeOfMode .sw) ([0x8A#8].length - 1)) ∧
    (crc8 [0x8A#8, 0x01#8] 0#8 = 0x33#8 ∧ BodyLegal base.params.maxBody (codeOfMode .sw) ([0x8A#8, 0x01#8].length - 1)) ∧
    (base.params.fastcmdCrc = false ∧ exec (.dechdr (ofBytes [0x85#8, 0x92#8])) base =
        answered base (.header 2 none .fc 1) ∧
      ¬BodyLegal base.params.maxBody (codeOfMode .fc) ([0x85#8, 0x92#8].length - 1) ∧
      BodyLegal base.params.maxBody (codeOfMode .fc) ([0x85#8].length - 1)) := by
  refine ⟨rfl, rfl, rfl, by decide, by decide, ⟨by decide, ?_⟩, ⟨by decide, ?_⟩, ⟨rfl, rfl, ?_, ?_⟩⟩ <;>
    simp [BodyLegal, codeOfMode, base, params]

/-- A sent frame, a failed one, and a fast command, each with the outputs the statement asks for. -/
theorem witness_ChkwAcceptsWhatWasSent :
    resultOf (exec (.wframe 0x11 (some 0x7F) 4 [0xAA, 0x55]) crcOn) =
      some ⟨.ok, .frame [0xE3#8, 0xFC#8, 0xAA#8, 0x55#8, 0xFE#8]⟩ ∧
    resultOf (exec (.wframe 5 none 2 [1]) (withAnswers base failing)) = some ⟨.hwReject, .frame [0x8A#8, 0x01#8]⟩ ∧
    resultOf (exec (.fcmd 2) crcOn) = some ⟨.ok, .frame [0x85#8]⟩ ∧ armed.params = crcOn.params := by decide

/-- The last bit of the CRC byte of an accepted frame, and bit 6 of its header. -/
theorem witness_ChkwRejectsEverySingleBitError :
    exec (.chkw (ofBytes [0x8A#8, 0x01#8, 0x33#8]) true) base = answered base (.received 5 none .sw [0x01#8]) ∧
    (Mode.sw ≠ .fc ∨ base.params.fastcmdCrc = true) ∧ [0x8A#8, 0x01#8, 0x33#8][2]? = some 0x33#8 ∧ 7 < 8 ∧
    [0x8A#8, 0x01#8, 0x33#8][0]? = some 0x8A#8 ∧ 6 < 8 := by
  refine ⟨rfl, .inl (by decide), rfl, by decide, rfl, by decide⟩

theorem witness_PackleGivesTheDigits :
    (8 < 9 ∨ 2 ^ 64 ≤ 0) ∧ (8 < 8 ∨ 2 ^ 64 ≤ 18446744073709551616) ∧ 8 ≤ 8 ∧ 18446744073709551615 < 2 ^ 64 := by decide

theorem witness_UnpackleGivesTheSum :
    8 < (List.replicate 9 0).length ∧ (List.replicate 8 255).length ≤ 8 ∧ AreBytes (List.replicate 8 255) := by
  simp [AreBytes]

theorem witness_TimestampRoundTrips :
    resultOf (exec (.packle 0x1FF 1) base) = some ⟨.ok, .bytes [0xFF#8]⟩ ∧
    (resultOf (exec (.packle 255 1) base) = some ⟨.ok, .bytes [0xFF#8]⟩ ∧ 255 < 2 ^ (8 * 1)) ∧
    resultOf (exec (.unpackle [0x89, 0x67]) base) = some ⟨.ok, .value 0x6789#64⟩ := by decide

/-- The five regions at their edges. -/
theorem witness_PboostLooksUpItsRegion :
    2 ^ 32 ≤ 4294967296 ∧ (4294967295 < 2 ^ 32 ∧ 1000 ≤ 4294967295) ∧ (200 < 201 ∧ 999 < 1000) ∧
    (70 ≤ 70 ∧ 200 ≤ 200) ∧ 69 < 70 := by decide

theorem witness_PboostTakesTheNearestEntry : (200 < 201 ∧ 201 < 1000) ∧ (200 < 999 ∧ 999 < 1000) ∧ 70 ≤ 70 ∧ 200 ≤ 200 := by
  decide

theorem witness_PboostNeverIncreases :
    Lut1Ok base.tables.lut1 ∧ Lut2Ok base.tables.lut2 ∧ 0 ≤ 4294967295 ∧ 4294967295 < 2 ^ 32 ∧ 1000 ≤ 1000 ∧ 70 ≤ 70 := by
  decide

/-- An illegal shape, an underflow under each policy, base = s, and the two overflows. -/
theorem witness_RxdlyComputesTheDelay :
    ¬ShapeLegal 100 .r6m8 0 ∧ (31 < 2 ^ 32 ∧ ShapeLegal 32 .r6m8 2048) ∧
    (31 < 32 ∧ { params with underflowPolicy := .fault }.underflowPolicy = .fault ∧ params.underflowPolicy = .clamp) ∧
    (ShapeLegal 4096 .r850k 0 ∧ ¬2048 < 2048 ∧ 0 * params.uusToDtuK / 256 < 2 ^ 32) ∧
    (4294967295 < 2 ^ 32 ∧ 2 ^ 32 ≤ (4294967295 - 32) + 2048) ∧
    (16777248 < 2 ^ 32 ∧ ShapeLegal 32 .r6m8 0 ∧ 2 ^ 32 ≤ (16777248 - 32 + 0) * params.uusToDtuK / 256) := by
  simp [ShapeLegal, params]

theorem witness_RxtmoComputesTheTimeout :
    ¬ShapeLegal 128 (.other 0) 0 ∧ ¬ShapeLegal 128 .r6m8 16 ∧
    (4294967295 < 2 ^ 32 ∧ ShapeLegal 4096 .r850k 2048 ∧ 2 ^ 32 ≤ 4294967295 + 200 + (4096 - 128) + 500 + 2048) ∧
    (ShapeLegal 128 .r6m8 0 ∧ 16776716 < 2 ^ 32 ∧ 2 ^ 32 ≤ (16776716 + 0 + 0 + 500 + 0) * params.uusToDtuK / 256) ∧
    (16776715 < 2 ^ 32 ∧ (16776715 + 0 + 0 + 500 + 0) * params.uusToDtuK / 256 < 2 ^ 32) := by
  simp [ShapeLegal, params]

/-- Pairs of calls that returned Ok, ordered in the preamble length, the rate, the base and the STS length. -/
theorem witness_BudgetLaws :
    exec (.rxtmo 300 128 .r6m8 0) base = answered base (.timeout 800 204800 false) ∧
    exec (.rxtmo 300 4096 .r6m8 0) base = answered base (.timeout 4768 1220608 false) ∧ 128 ≤ 4096 ∧
    exec (.rxtmo 300 128 .r850k 0) base = answered base (.timeout 1000 256000 false) ∧
    exec (.rxtmo 301 128 .r6m8 64) base = answered base (.timeout 865 221440 false) ∧ 300 ≤ 301 ∧ 0 ≤ 64 ∧
    exec (.rxdly 300 128 .r6m8 0) base = answered base (.delay 172 44032 false) ∧
    exec (.rxdly 300 512 .r6m8 0) base = answered base (.delay 0 0 true) ∧ 128 ≤ 512 ∧
    exec (.rxdly 300 128 .r6m8 64) base = answered base (.delay 236 60416 false) := by
  refine ⟨rfl, rfl, by decide, rfl, rfl, by decide, by decide, rfl, rfl, by decide, rfl⟩

theorem witness_ConversionsToDtu :
    (16777215 < 2 ^ 32 ∧ 16777215 * params.uusToDtuK / 256 < 2 ^ 32 ∧
      16777215 * params.dtuPerUsNum / params.dtuPerUsDen < 2 ^ 32) ∧
    (4294967295 < 2 ^ 32 ∧ 2 ^ 32 ≤ 4294967295 * params.uusToDtuK / 256 ∧
      2 ^ 32 ≤ 4294967295 * params.dtuPerUsNum / params.dtuPerUsDen) := by decide

theorem witness_Dtu2usTruncates :
    ¬(-(2 ^ 31) ≤ (2147483648 : Int) ∧ (2147483648 : Int) ≤ 2 ^ 31 - 1) ∧
    ¬(-(2 ^ 31) ≤ (-2147483649 : Int) ∧ (-2147483649 : Int) ≤ 2 ^ 31 - 1) ∧
    (-(2 ^ 31) ≤ (-2147483648 : Int) ∧ (-2147483648 : Int) ≤ 2 ^ 31 - 1) := by decide

theorem witness_DtudiffIsTheSignedDifference :
    (2 ^ 32 ≤ 4294967296 ∨ 2 ^ 32 ≤ 0) ∧ (2 ^ 32 ≤ 0 ∨ 2 ^ 32 ≤ 4294967296) ∧ 4294967295 < 2 ^ 32 := by decide

theorem witness_NoPinIsAPassthrough : base.regs.cxPin = none ∧ 4294967295 < 2 ^ 32 := by decide

/-- Armed; Idle with a failing device time; Idle with a working and with a failing GPIO write. -/
theorem witness_CxstartRunsItsRule :
    base.regs.cxPin = none ∧ 4294967295 < 2 ^ 32 ∧ (armed.regs.cxPin = some 5 ∧ armed.regs.cxPhase = .armed) ∧
    (pinned.regs.cxPin = some 5 ∧ pinned.regs.cxPhase = .idle ∧ pinned.devTime = some 0x1000#32 ∧
      pinned.gpioAck = .ok) ∧
    (withAnswers pinned failing).devTime = none ∧
    (withAnswers pinned (timeAndGpio 0x1000#32 (.fail 1#32))).devTime = some 0x1000#32 ∧
    (withAnswers pinned (timeAndGpio 0x1000#32 (.fail 1#32))).gpioAck = .fail 1#32 := by decide

/-- Not delayed; delayed with a date ahead; delayed with a date exactly 2^31 ahead, which reads as past. -/
theorem witness_CxstartLaws :
    Params.Ok pinned.params ∧ pinned.regs.cxPin = some 5 ∧ pinned.devTime = some 0x1000#32 ∧
    resultOf (exec (.cxstart false 0) pinned) = some ⟨.ok, .schedule true 0x0005C680#32 0⟩ ∧
    resultOf (exec (.cxstart true 0x00099580) pinned) = some ⟨.ok, .schedule true 0x00099580#32 1000⟩ ∧
    resultOf (exec (.cxstart true 0x80001000) pinned) = some ⟨.ok, .schedule true 0x80001000#32 0⟩ ∧
    (0x80001000#32 - 0x1000#32).toInt ≤ 0 := by decide

theorem witness_CxstopReleasesThePin :
    base.regs.cxPin = none ∧ armed.regs.cxPin = some 5 ∧ armed.gpioAck = .ok ∧ pinned.regs.cxPin = some 5 ∧
    (withAnswers armed failing).regs.cxPin = some 5 ∧ (withAnswers armed failing).gpioAck = .fail 0xFFFFFFFF#32 := by
  decide

/-- CXSTART and CXSTOP that change the phase, and a CXSTART that changes lastNow alone. -/
theorem witness_OnlyTheArbiterChangesItsState :
    (recordOf (exec (.cxstart false 0) pinned)).map (fun r => (r.cxPhase, r.cxLastNow)) =
      some (.armed, some 0x1000#32) ∧ pinned.regs.cxPhase = .idle ∧ pinned.regs.cxLastNow = none ∧
    (recordOf (exec .cxstop armed)).map Record.cxPhase = some .idle ∧ armed.regs.cxPhase = .armed := by decide

theorem witness_CxcfgConfiguresThePin :
    (∃ p, some 8 = some p ∧ base.params.npins ≤ p) ∧ 1 < 2 ∧
    ((∀ p, some 7 = some p → p < base.params.npins) ∧ 1 ≤ 1 ∧ base.regs.cxPhase = .idle ∧ base.gpioAck = .ok) ∧
    ((∀ p, (none : Option Nat) = some p → p < base.params.npins) ∧ 0 ≤ 1) ∧ armed.regs.cxPhase = .armed ∧
    (withAnswers base failing).regs.cxPhase = .idle ∧ (withAnswers base failing).gpioAck = .fail 0xFFFFFFFF#32 := by
  refine ⟨⟨8, rfl, by decide⟩, by decide, ⟨?_, by decide, rfl, rfl⟩, ⟨?_, by decide⟩, rfl, rfl, rfl⟩
  · rintro p ⟨⟩
    decide
  · rintro p ⟨⟩

/-- Each configuration command changes its field. -/
theorem witness_OnlyConfigurationCommandsConfigure :
    (recordOf (exec (.setcrc true) base)).map Record.crcWriteMode = some true ∧ base.regs.crcWriteMode = false ∧
    (recordOf (exec (.setrate .fast) base)).map Record.spiRate = some .fast ∧ base.regs.spiRate = .slow ∧
    (recordOf (exec (.cxcfg (some 7) 0) base)).map (fun r => (r.cxPin, r.cxActiveLevel)) = some (some 7, 0#1) ∧
    base.regs.cxPin = none ∧ base.regs.cxActiveLevel = 1#1 := by decide

end Sys2Proof.Tests
end

section
/-! SUPPORT. The range checks of 30_encoding R82: every command that is given an operand outside the range of its port
replies E_ARG_RANGE, and nothing else happens. -/

namespace Sys2Proof.Machine

open Sys2Proof.Spec

/-! ## Transactions -/

theorem subInRange_iff (sub : Option Nat) : subInRange sub = true ↔ SubLegal sub := by
  cases sub <;> simp [subInRange, SubLegal]

/-- The field checks refuse with E_ARG_RANGE only. -/
theorem checkFields_error {id : Nat} {sub : Option Nat} {mode : Nat} {c : Code}
    (h : checkFields id sub mode = .error c) : c = .argRange := by
  unfold checkFields at h
  split at h
  · split at h <;> cases h
    rfl
  · cases h
    rfl

theorem checkFields_outOfRange {id : Nat} {sub : Option Nat} {mode : Nat}
    (h : ¬(id ≤ 31 ∧ SubLegal sub ∧ mode ≤ 7)) : checkFields id sub mode = .error .argRange := by
  cases hc : checkFields id sub mode with
  | ok m =>
    obtain ⟨hid, hsub, hm⟩ := checkFields_ok hc
    exact absurd ⟨hid, (subInRange_iff sub).1 hsub, (modeOfCode_isSome mode).1 ⟨m, hm⟩⟩ h
  | error c => rw [checkFields_error hc]

theorem checkRead_outOfRange {maxBody id : Nat} {sub : Option Nat} {mode n : Nat}
    (h : ¬(id ≤ 31 ∧ SubLegal sub ∧ mode ≤ 7)) : checkRead maxBody id sub mode n = .error .argRange := by
  simp only [checkRead, checkFields_outOfRange h]

/-- The body's bytes are checked right after the fields, before the mode and the length. -/
theorem checkWrite_outOfRange {maxBody id : Nat} {sub : Option Nat} {mode : Nat} {body : List Nat}
    (h : ¬(id ≤ 31 ∧ SubLegal sub ∧ mode ≤ 7 ∧ AreBytes body)) :
    checkWrite maxBody id sub mode body = .error .argRange := by
  cases hc : checkFields id sub mode with
  | error c => simp only [checkWrite, hc, checkFields_error hc]
  | ok m =>
    obtain ⟨hid, hsub, hm⟩ := checkFields_ok hc
    have hb : areBytes body = false := Bool.eq_false_iff.2 fun hb =>
      h ⟨hid, (subInRange_iff sub).1 hsub, (modeOfCode_isSome mode).1 ⟨m, hm⟩, (areBytes_iff body).1 hb⟩
    simp only [checkWrite, hc, hb, Bool.not_false, if_true]

theorem State.writeFrame_outOfRange {s : State} {id : Nat} {sub : Option Nat} {mode : Nat} {body : List Nat}
    (h : ¬(id ≤ 31 ∧ SubLegal sub ∧ mode ≤ 7 ∧ AreBytes body)) :
    Host.Outcome.next (s.writeFrame id sub mode body) = failed s .argRange := by
  simp only [State.writeFrame, checkWrite_outOfRange h, failed, Result.err]

theorem State.readFrame_outOfRange {s : State} {id : Nat} {sub : Option Nat} {mode n : Nat}
    (h : ¬(id ≤ 31 ∧ SubLegal sub ∧ mode ≤ 7)) :
    Host.Outcome.next (s.readFrame id sub mode n) = failed s .argRange := by
  simp only [State.readFrame, checkRead_outOfRange h, failed, Result.err]

theorem State.fastFrame_outOfRange {s : State} {code : Nat} (h : ¬code ≤ 31) :
    Host.Outcome.next (s.fastFrame code) = failed s .argRange := by
  obtain ⟨-, hf⟩ | ⟨hle, -⟩ := s.fastFrame_cases code
  · rw [hf]
    rfl
  · exact absurd hle h

/-! ## The two shapes of a range check in a command that makes no transaction -/

/-- The check selects the result. -/
theorem reply_of_refused_check {s : State} {check : Bool} {done : Result} (h : ¬check = true) :
    Host.Outcome.next (s.reply (if check then done else .err .argRange)) = failed s .argRange := by
  rw [if_neg h]
  rfl

/-- The check comes before everything else the command does, its faults included. -/
theorem answer_of_refused_check {s : State} {check : Bool} {go : Answer} (h : ¬check = true) :
    (if !check then .next (s.reply (.err .argRange)) else go) = failed s .argRange := by
  rw [if_pos (by simpa using h)]
  rfl

theorem shapeLegal_base {base plen : Nat} {rate : DataRate} {sts : Nat} (h : shapeLegal base plen rate sts = true) :
    base < 2 ^ 32 := by
  simp only [shapeLegal, Bool.and_eq_true] at h
  obtain ⟨⟨⟨hbase, -⟩, -⟩, -⟩ := h
  exact (isU32_iff base).1 hbase

end Sys2Proof.Machine

open Sys2Proof Sys2Proof.Machine Sys2Proof.Spec

/-- Settles O14: each command's own check is the negation of the range R82 gives its ports, and it comes first. The short
modes and the modes of the wire transactions are legal, so there only the id, the sub-address and the body are in question. -/
theorem operandsOutOfRangeAreRefused : Obligations.OperandsOutOfRangeAreRefused := by
  intro i s h
  cases i <;> simp only [OperandsInRange] at h
  case fastCommand | fcmd => exact State.fastFrame_outOfRange h
  case shortRead | fullRead | rframe => exact State.readFrame_outOfRange (by simpa [SubLegal] using h)
  case shortWrite | fullWrite | maskedWrite8 | maskedWrite16 | maskedWrite32 | wframe =>
    exact State.writeFrame_outOfRange (by simpa [SubLegal] using h)
  case enchdr => simp only [exec, execEnchdr, checkFields_outOfRange h, failed, Result.err]
  case dechdr | chkw => exact reply_of_refused_check fun hc => h ((areBytes_iff _).1 hc)
  case crc8 | unpackle =>
    exact reply_of_refused_check fun hc => h (by simpa [AreBytes, areBytes_iff] using hc)
  case packle =>
    refine reply_of_refused_check fun hc => h ?_
    simp only [u64Max, Bool.and_eq_true, decide_eq_true_eq] at hc
    omega
  case pboost => exact reply_of_refused_check fun hc => h ((isU32_iff _).1 hc)
  case dtu2us =>
    refine reply_of_refused_check fun hc => h ?_
    simp only [Bool.and_eq_true, decide_eq_true_eq] at hc
    omega
  case dtudiff => exact reply_of_refused_check fun hc => h (by simpa only [Bool.and_eq_true, isU32_iff] using hc)
  case rxdly | rxtmo => exact answer_of_refused_check fun hc => h (shapeLegal_base hc)
  case uus2dtu | us2dtu | cxstart => exact answer_of_refused_check fun hc => h ((isU32_iff _).1 hc)
  case cxcfg | cxstop | setcrc | setrate => exact absurd trivial h
end

section
/-! SUPPORT. DECHDR on a sequence of bytes: which headers it refuses as reserved (30_encoding R76), and that every other
whole header decodes. -/

namespace Sys2Proof

/-- Bit 6 of byte 0 clear: the header is byte 0, whatever follows (R75). -/
theorem decodeHeader_short {b0 : Byte} (h : b0.toNat / 64 % 2 = 0) (rest : List Byte) :
    decodeHeader (b0 :: rest) = decodeH1 b0.toNat := by
  have h6 : bits b0.toNat 6 6 = 0 := h
  simp only [decodeHeader, h6, if_true]

/-- Bit 6 of byte 0 set: the header is the first two bytes, whatever follows (R75). -/
theorem decodeHeader_long {b0 : Byte} (h : b0.toNat / 64 % 2 = 1) (b1 : Byte) (rest : List Byte) :
    decodeHeader (b0 :: b1 :: rest) = decodeH2 b0.toNat b1.toNat := by
  have h6 : bits b0.toNat 6 6 = 1 := h
  simp only [decodeHeader, h6, one_ne_zero, if_false]

/-- The reserved pattern of a one-byte header: W = 0 and F = 1. -/
theorem decodeH1_cases (b0 : Byte) :
    ((b0.toNat / 128 = 0 ∧ b0.toNat % 2 = 1) ∧ decodeH1 b0.toNat = .error .reserved) ∨
    (¬(b0.toNat / 128 = 0 ∧ b0.toNat % 2 = 1) ∧ ∃ h, decodeH1 b0.toNat = .ok h) := by
  have hlt := b0.isLt
  have hw : bits b0.toNat 7 7 = b0.toNat / 128 := by simp only [bits]; omega
  have hf : bits b0.toNat 0 0 = b0.toNat % 2 := by simp only [bits]; omega
  unfold decodeH1
  rw [hw, hf]
  split_ifs with h0 h7
  · exact .inl ⟨⟨h7, h0⟩, rfl⟩
  · exact .inr ⟨fun h => h7 h.1, _, rfl⟩
  all_goals exact .inr ⟨fun h => h0 h.2, _, rfl⟩

/-- The reserved patterns of a two-byte header: W = 0 and M not 0. -/
theorem decodeH2_cases (b0 b1 : Byte) :
    ((b0.toNat / 128 = 0 ∧ b1.toNat % 4 ≠ 0) ∧ decodeH2 b0.toNat b1.toNat = .error .reserved) ∨
    (¬(b0.toNat / 128 = 0 ∧ b1.toNat % 4 ≠ 0) ∧ ∃ h, decodeH2 b0.toNat b1.toNat = .ok h) := by
  have hlt := b0.isLt
  have hw : bits b0.toNat 7 7 = b0.toNat / 128 := by simp only [bits]; omega
  have hm : bits b1.toNat 1 0 = b1.toNat % 4 := by simp only [bits]; omega
  unfold decodeH2
  rw [hw, hm]
  split_ifs with h7 h1
  · exact .inr ⟨fun h => h.2 h1, _, rfl⟩
  · exact .inl ⟨⟨h7, h1⟩, rfl⟩
  · exact .inr ⟨fun h => h7 h.1, _, rfl⟩

namespace Machine

open Sys2Proof.Spec

/-- DECHDR of a sequence of bytes is the decoder's answer, with no range to check. -/
theorem exec_dechdr_ofBytes (bytes : List Byte) (s : State) :
    exec (.dechdr (ofBytes bytes)) s = .next (s.reply (decodeResult bytes)) := by
  simp only [exec, execDechdr, areBytes_ofBytes, toBytes_ofBytes, if_true]

theorem answered_ne_failed (s : State) (out : Outputs) {c : Code} (hc : c ≠ .ok) : answered s out ≠ failed s c := by
  intro h
  have hr : s.reply ⟨.ok, out⟩ = s.reply ⟨c, .none⟩ := by
    simpa only [answered, failed, Host.Outcome.next.injEq] using h
  simpa [hc.symm] using congrArg State.result hr

/-- Where the decoder's verdict on the bytes `front` does not depend on what follows them, DECHDR carries it over to its
result, in every state: refused as reserved exactly under `P`, the same outputs otherwise. -/
theorem dechdr_reserved_or_decoded {front : List Byte} {verdict : Except HeaderError Header} {P : Prop}
    (hfront : ∀ rest, decodeHeader (front ++ rest) = verdict)
    (hverdict : (P ∧ verdict = .error .reserved) ∨ (¬P ∧ ∃ h, verdict = .ok h)) :
    (∀ (rest : List Byte) (s : State),
      exec (.dechdr (ofBytes (front ++ rest))) s = failed s .hdrReserved ↔ P) ∧
    (¬P → ∃ id sub m hlen, ∀ (rest : List Byte) (s : State),
      exec (.dechdr (ofBytes (front ++ rest))) s = answered s (.header id sub m hlen)) := by
  simp only [exec_dechdr_ofBytes, decodeResult, hfront]
  obtain ⟨hP, rfl⟩ | ⟨hP, h, rfl⟩ := hverdict
  · exact ⟨fun _ _ => ⟨fun _ => hP, fun _ => rfl⟩, fun hn => absurd hP hn⟩
  · exact ⟨fun _ s => ⟨fun he => absurd he (answered_ne_failed s _ (by decide)), fun hp => absurd hp hP⟩,
      fun _ => ⟨h.id, h.sub, h.mode, h.hlen, fun _ _ => rfl⟩⟩

end Machine

end Sys2Proof

open Sys2Proof Sys2Proof.Machine Sys2Proof.Spec

/-- Settles O17: bit 6 of byte 0 selects the format, and each format has its one reserved pattern. -/
theorem reservedHeadersAreTheTwoPatterns : Obligations.ReservedHeadersAreTheTwoPatterns :=
  ⟨fun b0 h6 => dechdr_reserved_or_decoded (front := [b0]) (decodeHeader_short h6) (decodeH1_cases b0),
    fun b0 b1 h6 => dechdr_reserved_or_decoded (front := [b0, b1]) (decodeHeader_long h6 b1) (decodeH2_cases b0 b1)⟩
end

section
/-! SUPPORT. Command words whose opcode 30_encoding R80 does not assign. -/

namespace Sys2Proof

/-- The decoder has a meaning for no other opcode than the 21 assigned ones. -/
theorem decodeCommand_unassigned {opcode : Nat} (h : opcode ∉ assignedOpcodes) (ports : List Port) :
    decodeCommand opcode ports = .error (.unassignedOpcode opcode) := by
  unfold decodeCommand
  split
  case h_22 => rfl
  all_goals exact absurd (by decide) h

namespace Machine

/-- A step on a word that does not decode is the refusal of its reason, whatever device it names. -/
theorem step_of_decode_error {s : State} {k : Nat} {w : HostWord} {rest : List HostInput} {r : Reject}
    (hs : s.inputs = .issue k w :: rest) (hw : decode w = .error r) : step s = .refused (refusalOf r) := by
  simp only [step, hs, runWord, hw]

end Machine

end Sys2Proof

open Sys2Proof Sys2Proof.Machine

/-- Settles O5: the opcodes the statement lists are `assignedOpcodes`, by computation. -/
theorem unassignedOpcodesAreRefused : Obligations.UnassignedOpcodesAreRefused :=
  fun _ _ _ ports _ hs hop => step_of_decode_error hs (decodeCommand_unassigned hop ports)
end

section
/-! SUPPORT. The transport codec's checks in the terms of the spec: modes by their code (30_encoding R74), headers as the
numbers of R70 and R71, and the field checks shared by ENCHDR, WFRAME and RFRAME. -/

namespace Sys2Proof

open Sys2Proof.Spec

/-! ## Modes by their code -/

theorem exists_mode_of_code {c : Nat} (h : c ≤ 7) : ∃ m, codeOfMode m = c := by
  obtain ⟨m, hm⟩ := (modeOfCode_isSome c).2 h
  exact ⟨m, codeOfMode_of_modeOfCode hm⟩

theorem headerLength_eq (m : Mode) : (if modeIsLong m then 2 else 1) = if codeOfMode m ≤ 2 then 1 else 2 := by
  cases m <;> rfl

/-! ## Headers as numbers -/

theorem headerH1_eq_shortHeader (w id f : Nat) : headerH1 w id f = shortHeader w id f := by
  simp only [headerH1, shortHeader]
  congr 2
  omega

theorem headerBytes_headerH2 (w id sub m : Nat) : headerBytes (headerH2 w id sub m) = longHeader w id sub m := by
  have hw : headerH2 w id sub m = headerWord w id sub m := by
    simp only [headerH2, headerWord]
    omega
  rw [hw]
  rfl

namespace Machine

theorem isReadMode_iff (m : Mode) : isReadMode m = true ↔ codeOfMode m = 1 ∨ codeOfMode m = 3 := by
  cases m <;> simp [isReadMode, codeOfMode]

theorem isWriteMode_iff (m : Mode) : isWriteMode m = true ↔ codeOfMode m = 2 ∨ 4 ≤ codeOfMode m := by
  cases m <;> simp [isWriteMode, codeOfMode]

theorem isWriteMode_iff_not_read (m : Mode) : isWriteMode m = true ↔ codeOfMode m ≠ 0 ∧ isReadMode m = false := by
  cases m <;> simp [isWriteMode, isReadMode, codeOfMode]

theorem subMatches_iff (m : Mode) (sub : Option Nat) : subMatches m sub = true ↔ (3 ≤ codeOfMode m ↔ sub ≠ none) := by
  cases m <;> cases sub <;> simp [subMatches, modeIsLong, codeOfMode]

/-- The modes with a two-byte header and W = 1 differ in the field M only. -/
theorem hdr_of_long_write {m : Mode} (hm : 4 ≤ codeOfMode m) (id x : Nat) :
    hdr id (some x) m = longHeader 1 id x (codeOfMode m - 4) := by
  cases m
  case fw | mw8 | mw16 | mw32 => exact headerBytes_headerH2 1 id x _
  all_goals exact absurd hm (by decide)

theorem hdr_of_full_read (id x : Nat) : hdr id (some x) .fr = longHeader 0 id x 0 :=
  headerBytes_headerH2 0 id x 0

/-- The header of a write-class mode as numbers is the header the model writes. -/
theorem hdr_of_writeHeader {m : Mode} {id : Nat} {sub : Option Nat} {h : List Byte}
    (hw : WriteHeader (codeOfMode m) id sub h) :
    isReadMode m = false ∧ subMatches m sub = true ∧ h = hdr id sub m := by
  obtain ⟨hm, rfl, rfl⟩ | ⟨hm, rfl, rfl⟩ | ⟨x, hm, -, rfl, -, rfl⟩ := hw
  · cases m <;> cases hm
    exact ⟨rfl, rfl, (headerH1_eq_shortHeader 1 id 1).symm⟩
  · cases m <;> cases hm
    exact ⟨rfl, rfl, (headerH1_eq_shortHeader 1 id 0).symm⟩
  · have hread : ¬isReadMode m = true := by rw [isReadMode_iff]; omega
    refine ⟨by simpa using hread, (subMatches_iff _ _).2 (by simp; omega), (hdr_of_long_write hm id x).symm⟩

/-! ## The checks -/

theorem checkFields_inRange {id : Nat} {sub : Option Nat} (m : Mode) (hid : id ≤ 31) (hsub : SubLegal sub) :
    checkFields id sub (codeOfMode m) = .ok m := by
  simp only [checkFields, idInRange, hid, (subInRange_iff sub).2 hsub, decide_true, Bool.and_self, if_true,
    modeOfCode_codeOfMode]

/-- The length rule R113 as numbers. A read sends no body and R113 does not speak of it. -/
theorem bodyLengthOk_iff {m : Mode} (hm : isReadMode m = false) (maxBody n : Nat) :
    bodyLengthOk maxBody m n = true ↔ BodyLegal maxBody (codeOfMode m) n := by
  cases m
  case sr | fr => cases hm
  all_goals simp [bodyLengthOk, BodyLegal, codeOfMode]

end Machine

end Sys2Proof
end

section
/-! SUPPORT. ENCHDR and DECHDR (40_transport_codec R108, R109, R121). -/

namespace Sys2Proof.Machine

open Sys2Proof.Spec

/-! ## ENCHDR -/

theorem exec_enchdr {id : Nat} {sub : Option Nat} (m : Mode) (s : State) (hid : id ≤ 31) (hsub : SubLegal sub) :
    exec (.enchdr id sub (codeOfMode m)) s =
      if subMatches m sub then answered s (.hdr (hdr id sub m)) else failed s .mode := by
  simp only [exec, execEnchdr, checkFields_inRange m hid hsub]
  split <;> rfl

/-- A header that ENCHDR wrote is that of the mode, and every operand was in range. -/
theorem exec_enchdr_inv {id : Nat} {sub : Option Nat} {mode : Nat} {s t : State} {h : List Byte}
    (ht : exec (.enchdr id sub mode) s = .next t) (hr : t.result = some ⟨.ok, .hdr h⟩) :
    ∃ m, codeOfMode m = mode ∧ id ≤ 31 ∧ SubLegal sub ∧ subMatches m sub = true ∧ h = hdr id sub m := by
  by_cases hrange : id ≤ 31 ∧ SubLegal sub ∧ mode ≤ 7
  · obtain ⟨hid, hsub, hmode⟩ := hrange
    obtain ⟨m, rfl⟩ := exists_mode_of_code hmode
    rw [exec_enchdr m s hid hsub] at ht
    split at ht
    · rename_i hm
      cases ht
      cases hr
      exact ⟨m, rfl, hid, hsub, hm, rfl⟩
    · cases ht
      cases hr
  · rw [operandsOutOfRangeAreRefused (.enchdr id sub mode) s hrange] at ht
    cases ht
    cases hr

/-! ## DECHDR -/

theorem exec_dechdr {bytes : List Nat} (h : AreBytes bytes) (s : State) :
    exec (.dechdr bytes) s = .next (s.reply (decodeResult (toBytes bytes))) := by
  simp only [exec, execDechdr, (areBytes_iff bytes).2 h, if_true]

theorem exec_dechdr_of_ok {bytes : List Nat} {h : Header} (hb : AreBytes bytes)
    (hd : decodeHeader (toBytes bytes) = .ok h) (s : State) :
    exec (.dechdr bytes) s = answered s (.header h.id h.sub h.mode h.hlen) := by
  simp only [exec_dechdr hb, decodeResult, hd]
  rfl

theorem exec_dechdr_of_error {bytes : List Nat} {e : HeaderError} (hb : AreBytes bytes)
    (hd : decodeHeader (toBytes bytes) = .error e) (s : State) :
    exec (.dechdr bytes) s = failed s (headerCode e) := by
  simp only [exec_dechdr hb, decodeResult, hd]
  rfl

theorem headerCode_ne_ok (e : HeaderError) : headerCode e ≠ .ok := by cases e <;> decide

theorem decodeResult_eq_header {bytes : List Byte} {id : Nat} {sub : Option Nat} {m : Mode} {hlen : Nat}
    (h : decodeResult bytes = ⟨.ok, .header id sub m hlen⟩) : decodeHeader bytes = .ok ⟨id, sub, m, hlen⟩ := by
  unfold decodeResult at h
  split at h
  · exact absurd (congrArg Result.code h) (headerCode_ne_ok _)
  · rename_i hd
    cases h
    exact hd

/-- What DECHDR read is the decoder's header, and every operand was a byte. -/
theorem exec_dechdr_inv {bytes : List Nat} {s t : State} {id : Nat} {sub : Option Nat} {m : Mode} {hlen : Nat}
    (ht : exec (.dechdr bytes) s = .next t) (hr : t.result = some ⟨.ok, .header id sub m hlen⟩) :
    decodeHeader (toBytes bytes) = .ok ⟨id, sub, m, hlen⟩ := by
  simp only [exec, execDechdr, Host.Outcome.next.injEq] at ht
  subst ht
  rw [State.reply_result, Option.some.injEq] at hr
  split at hr
  · exact decodeResult_eq_header hr
  · cases hr

/-- The decoder reads back what the encoder wrote from operands that fit their mode. -/
theorem decodeHeader_hdr {id : Nat} {sub : Option Nat} {m : Mode} (hid : id ≤ 31) (hsub : SubLegal sub)
    (hm : subMatches m sub = true) (rest : List Byte) :
    decodeHeader (hdr id sub m ++ rest) = .ok ⟨id, sub, m, if codeOfMode m ≤ 2 then 1 else 2⟩ := by
  have hx : sub.getD 0 ≤ 127 := by
    cases sub with
    | none => decide
    | some x => exact hsub x rfl
  have hlong : modeIsLong m = sub.isSome := by simpa [subMatches] using hm
  rw [hdr, decodeHeader_encodeHeader m id _ rest hid hx, headerLength_eq, hlong]
  cases sub <;> rfl

end Sys2Proof.Machine

open Sys2Proof Sys2Proof.Machine Sys2Proof.Spec

/-- Settles O19: an accepted operand fits its mode, so the decoder reads it back; an accepted header has fields in range
and its bytes are those the encoder writes. -/
theorem headerCodecRoundTrips : Obligations.HeaderCodecRoundTrips := by
  constructor
  · intro id sub mode s t h ht hr
    obtain ⟨m, rfl, hid, hsub, hm, rfl⟩ := exec_enchdr_inv ht hr
    have hd := decodeHeader_hdr hid hsub hm []
    rw [List.append_nil] at hd
    refine ⟨m, rfl, fun s' => ?_⟩
    rw [exec_dechdr_ofBytes, decodeResult, hd]
    rfl
  · intro bytes s t id sub m hlen ht hr s'
    obtain ⟨hid, hlong, hsub, -, -, htake⟩ := decodeHeader_ok (exec_dechdr_inv ht hr)
    have hm : subMatches m sub = true := by simp [subMatches, hlong]
    have hbytes : toBytes (bytes.take hlen) = hdr id sub m := by rw [toBytes, List.map_take]; exact htake
    rw [exec_enchdr m s' hid hsub, if_pos hm, hbytes]

/-- Settles O21: each clause of the statement is a branch of `exec_enchdr`, at its mode. -/
theorem enchdrGivesTheHeader : Obligations.EnchdrGivesTheHeader := by
  intro id sub mode s
  refine ⟨fun h => operandsOutOfRangeAreRefused (.enchdr id sub mode) s
    fun ⟨hid, hsub, hmode⟩ => h ⟨hid, hmode, hsub⟩, ?_, ?_, ?_, ?_⟩
  · intro hid hmode hsub hsome
    obtain ⟨m, rfl⟩ := exists_mode_of_code (c := mode) (by omega)
    rw [exec_enchdr m s hid hsub, if_neg]
    rw [subMatches_iff]
    exact fun h => absurd (h.2 hsome) (by omega)
  · rintro hid hlow hmode rfl
    obtain ⟨m, rfl⟩ := exists_mode_of_code hmode
    rw [exec_enchdr m s hid (by simp [SubLegal]), if_neg]
    rw [subMatches_iff]
    exact fun h => h.1 hlow rfl
  · rintro hid rfl
    have short (m : Mode) (hm : codeOfMode m ≤ 2) :
        exec (.enchdr id none (codeOfMode m)) s = answered s (.hdr (hdr id none m)) := by
      rw [exec_enchdr m s hid (by simp [SubLegal]), if_pos ((subMatches_iff m none).2 (by simp; omega))]
    refine ⟨?_, ?_, ?_⟩ <;> rintro rfl <;> rw [← headerH1_eq_shortHeader]
    · exact short .fc (by decide)
    · exact short .sr (by decide)
    · exact short .sw (by decide)
  · rintro x hid rfl hx
    have long (m : Mode) (hm : 3 ≤ codeOfMode m) :
        exec (.enchdr id (some x) (codeOfMode m)) s = answered s (.hdr (hdr id (some x) m)) := by
      rw [exec_enchdr m s hid (by simpa [SubLegal] using hx), if_pos ((subMatches_iff m (some x)).2 (by simpa using hm))]
    constructor
    · rintro rfl
      rw [← hdr_of_full_read]
      exact long .fr (by decide)
    · intro hlow hmode
      obtain ⟨m, rfl⟩ := exists_mode_of_code hmode
      rw [long m (by omega), hdr_of_long_write hlow]
end

section
/-! SUPPORT. What DECHDR reads (40_transport_codec R109), with the fields of both formats as numbers. -/

namespace Sys2Proof

theorem decodeH1_eq {b0 : Nat} (h : b0 ≤ 255) : decodeH1 b0 =
    if b0 % 2 = 1 then if b0 < 128 then .error .reserved else .ok ⟨b0 / 2 % 32, none, .fc, 1⟩
    else .ok ⟨b0 / 2 % 32, none, if b0 < 128 then .sr else .sw, 1⟩ := by
  have hf : bits b0 0 0 = b0 % 2 := by simp only [bits]; omega
  have hid : bits b0 5 1 = b0 / 2 % 32 := by simp only [bits]; omega
  by_cases hw : b0 < 128
  · have h7 : bits b0 7 7 = 0 := by simp only [bits]; omega
    simp only [decodeH1, hf, hid, h7, hw, zero_ne_one, if_true, if_false]
  · have h7 : bits b0 7 7 = 1 := by simp only [bits]; omega
    simp only [decodeH1, hf, hid, h7, hw, one_ne_zero, if_true, if_false]

theorem decodeH2_eq {b0 b1 : Nat} (h0 : b0 ≤ 255) (h1 : b1 ≤ 255) : decodeH2 b0 b1 =
    if b0 < 128 then
      if b1 % 4 = 0 then .ok ⟨b0 / 2 % 32, some (b0 % 2 * 64 + b1 / 4), .fr, 2⟩ else .error .reserved
    else .ok ⟨b0 / 2 % 32, some (b0 % 2 * 64 + b1 / 4), writeModeOfM (b1 % 4), 2⟩ := by
  have hid : bits b0 5 1 = b0 / 2 % 32 := by simp only [bits]; omega
  have hsub : bits b0 0 0 * 64 + bits b1 7 2 = b0 % 2 * 64 + b1 / 4 := by simp only [bits]; omega
  have hm : bits b1 1 0 = b1 % 4 := by simp only [bits]; omega
  have h7 : bits b0 7 7 = 0 ↔ b0 < 128 := by simp only [bits]; omega
  simp only [decodeH2, hid, hsub, hm, h7]

theorem codeOfMode_writeModeOfM {m : Nat} (h : m < 4) : codeOfMode (writeModeOfM m) = 4 + m := by
  interval_cases m <;> rfl

theorem toNat_ofNat_byte {b : Nat} (h : b ≤ 255) : (BitVec.ofNat 8 b).toNat = b := by
  rw [BitVec.toNat_ofNat]
  omega

/-- Bit 6 of byte 0 clear: the header is byte 0, as a number. -/
theorem decodeHeader_toBytes_short {b0 : Nat} (h0 : b0 ≤ 255) (h6 : b0 / 64 % 2 = 0) (rest : List Nat) :
    decodeHeader (toBytes (b0 :: rest)) = decodeH1 b0 := by
  have hn := toNat_ofNat_byte h0
  calc decodeHeader (toBytes (b0 :: rest)) = decodeH1 (BitVec.ofNat 8 b0).toNat :=
        decodeHeader_short (by rw [hn]; exact h6) (toBytes rest)
    _ = decodeH1 b0 := by rw [hn]

/-- Bit 6 of byte 0 set: the header is the first two bytes, as numbers. -/
theorem decodeHeader_toBytes_long {b0 b1 : Nat} (h0 : b0 ≤ 255) (h1 : b1 ≤ 255) (h6 : b0 / 64 % 2 = 1)
    (rest : List Nat) : decodeHeader (toBytes (b0 :: b1 :: rest)) = decodeH2 b0 b1 := by
  have hn0 := toNat_ofNat_byte h0
  have hn1 := toNat_ofNat_byte h1
  calc decodeHeader (toBytes (b0 :: b1 :: rest))
      = decodeH2 (BitVec.ofNat 8 b0).toNat (BitVec.ofNat 8 b1).toNat :=
        decodeHeader_long (by rw [hn0]; exact h6) (BitVec.ofNat 8 b1) (toBytes rest)
    _ = decodeH2 b0 b1 := by rw [hn0, hn1]

theorem decodeHeader_lone_byte {b0 : Nat} (h0 : b0 ≤ 255) (h6 : b0 / 64 % 2 = 1) :
    decodeHeader (toBytes [b0]) = .error .truncated := by
  have hbit : bits (BitVec.ofNat 8 b0).toNat 6 6 = 1 := by rw [toNat_ofNat_byte h0]; exact h6
  simp only [toBytes, List.map, decodeHeader, hbit, one_ne_zero, if_false]

end Sys2Proof

open Sys2Proof Sys2Proof.Machine Sys2Proof.Spec

/-- Settles O22: the clauses of the statement are the branches of the decoder on each format. -/
theorem dechdrReadsTheHeader : Obligations.DechdrReadsTheHeader := by
  intro s
  refine ⟨rfl, ?_, ?_, ?_⟩
  · intro b0 rest hb h6
    have h0 : b0 ≤ 255 := hb b0 (by simp)
    have hd := (decodeHeader_toBytes_short h0 h6 rest).trans (decodeH1_eq h0)
    refine ⟨fun hf hw => ?_, fun hf hw => ?_, fun hf hw => ?_, fun hf hw => ?_⟩
    · exact exec_dechdr_of_error hb (by rw [hd, if_pos hf, if_pos hw]) s
    · exact exec_dechdr_of_ok hb (by rw [hd, if_pos hf, if_neg (by omega)]) s
    · exact exec_dechdr_of_ok hb (by rw [hd, if_neg (by omega), if_neg (by omega)]) s
    · exact exec_dechdr_of_ok hb (by rw [hd, if_neg (by omega), if_pos hw]) s
  · intro b0 h0 h6
    exact exec_dechdr_of_error (by simpa [AreBytes] using h0) (decodeHeader_lone_byte h0 h6) s
  · intro b0 b1 rest hb h6
    have h0 : b0 ≤ 255 := hb b0 (by simp)
    have h1 : b1 ≤ 255 := hb b1 (by simp)
    have hd := (decodeHeader_toBytes_long h0 h1 h6 rest).trans (decodeH2_eq h0 h1)
    refine ⟨fun hw hm => ?_, fun hw hm => ?_, fun hw => ?_⟩
    · exact exec_dechdr_of_error hb (by rw [hd, if_pos hw, if_neg hm]) s
    · exact exec_dechdr_of_ok hb (by rw [hd, if_pos hw, if_pos hm]) s
    · exact ⟨_, codeOfMode_writeModeOfM (Nat.mod_lt _ (by decide)),
        exec_dechdr_of_ok hb (by rw [hd, if_neg (by omega)]) s⟩
end

section
/-! SUPPORT. The CRC (40_transport_codec R110 to R112, R119, R120): its table, its chaining over concatenation, and that
every step of it can be undone. -/

namespace Sys2Proof.Machine

/-- Sixteen rows of sixteen entries. -/
theorem crcTable_length : crcTable.length = 256 := by
  simp only [crcTable, List.length_append]
  rfl

/-- The table as listed, against the eight shifts of R110, entry by entry. -/
theorem crcT_eq_crcRemainder : ∀ d : Byte, crcT d = crcRemainder d := by decide

/-! ## Folding -/

theorem crc8_cons (b : Byte) (m : List Byte) (i : Byte) : crc8 (b :: m) i = crc8 m (crcT (b ^^^ i)) := rfl

theorem crc8_append (a b : List Byte) (i : Byte) : crc8 (a ++ b) i = crc8 b (crc8 a i) := List.foldl_append

/-! ## Injectivity -/

/-- What undoes a division step: bit 0 of its result tells whether P was subtracted. -/
def crcUnshift (r : Byte) : Byte := if r.getLsbD 0 then ((r ^^^ 0x07#8) >>> 1) ||| 0x80#8 else r >>> 1

theorem crcUnshift_crcShift : Function.LeftInverse crcUnshift crcShift := by
  unfold Function.LeftInverse
  decide

theorem crcT_injective : Function.Injective crcT := by
  have shift := crcUnshift_crcShift.injective
  have eight : crcT = crcShift^[8] := funext crcT_eq_crcRemainder
  rw [eight]
  exact shift.iterate 8

/-- Two different remainders stay different, whatever bytes follow. -/
theorem crc8_injective (m : List Byte) : Function.Injective (crc8 m) := by
  induction m with
  | nil => exact fun _ _ h => h
  | cons b m ih =>
    intro i i' h
    rw [crc8_cons, crc8_cons] at h
    exact (BitVec.xor_right_inj b).1 (crcT_injective (ih h))

/-- Changing one byte changes the remainder after it, and with it the CRC. -/
theorem crc8_set_ne {b b' : Byte} (hb : b' ≠ b) {m : List Byte} {k : Nat} (hk : m[k]? = some b) (i : Byte) :
    crc8 (m.set k b') i ≠ crc8 m i := by
  induction m generalizing k i with
  | nil => cases hk
  | cons x m ih =>
    cases k with
    | zero =>
      cases hk
      intro h
      rw [List.set_cons_zero, crc8_cons, crc8_cons] at h
      exact hb ((BitVec.xor_left_inj i).1 (crcT_injective (crc8_injective m h)))
    | succ k => exact ih hk _

theorem flipBit_ne (b : Byte) {j : Nat} (hj : j < 8) : b ^^^ (1#8 <<< j) ≠ b := by
  intro h
  have hbit := congrArg (·.getLsbD j) h
  simp [hj] at hbit

end Sys2Proof.Machine

open Sys2Proof Sys2Proof.Machine Sys2Proof.Spec

/-- Settles O23. -/
theorem crcTableHoldsTheRemainders : Obligations.CrcTableHoldsTheRemainders :=
  ⟨crcTable_length, crcT_eq_crcRemainder⟩

/-- Settles O24: folding over the operand's numbers is folding over its bytes. -/
theorem crc8FoldsTheTable : Obligations.Crc8FoldsTheTable := by
  intro bytes init s
  refine ⟨fun h => operandsOutOfRangeAreRefused (.crc8 bytes init) s h, fun hb hi => ?_⟩
  simp only [exec, execCrc8, (areBytes_iff bytes).2 hb, hi, decide_true, Bool.and_self, if_true, crc8, toBytes,
    List.foldl_map]
  rfl

/-- Settles O25. -/
theorem crcChains : Obligations.CrcChains := ⟨crc8_append, fun h b => (crc8_append h b 0#8).symm⟩

/-- Settles O26: a step of the CRC can be undone, so the two remainders never meet again after the changed byte. -/
theorem crcSeesEverySingleBit : Obligations.CrcSeesEverySingleBit :=
  fun _ _ _ b i hk hj => crc8_set_ne (flipBit_ne b hj) hk i
end

section
/-! SUPPORT. WFRAME and RFRAME (40_transport_codec R113 to R116): what each does with operands in range, as one equation. -/

namespace Sys2Proof.Machine

open Sys2Proof.Spec

theorem ackCode_eq_writeCode (a : Ack) : ackCode a = writeCode a := by cases a <;> rfl

/-- The CRC byte sent is that of the header and body together. -/
theorem State.sendFrame_eq_sent (s : State) (h b : List Byte) (crc : Bool) : s.sendFrame h b crc = sent s h b crc := by
  simp only [State.sendFrame, sent, crc8_append, ackCode_eq_writeCode]

/-- What a write does when its fields and its body's bytes are in range. -/
theorem State.writeFrame_inRange (s : State) {id : Nat} {sub : Option Nat} (m : Mode) {body : List Nat} (hid : id ≤ 31)
    (hsub : SubLegal sub) (hb : AreBytes body) :
    s.writeFrame id sub (codeOfMode m) body =
      if isWriteMode m = true ∧ subMatches m sub = true then
        if bodyLengthOk s.params.maxBody m body.length then sent s (hdr id sub m) (toBytes body) s.regs.crcWriteMode
        else s.reply (.err .length)
      else s.reply (.err .mode) := by
  simp only [State.writeFrame, checkWrite, checkFields_inRange m hid hsub, (areBytes_iff body).2 hb,
    ← State.sendFrame_eq_sent]
  cases isWriteMode m <;> cases subMatches m sub <;> cases bodyLengthOk s.params.maxBody m body.length <;> rfl

/-- What a read does when its fields are in range. -/
theorem State.readFrame_inRange (s : State) {id : Nat} {sub : Option Nat} (m : Mode) (n : Nat) (hid : id ≤ 31)
    (hsub : SubLegal sub) :
    s.readFrame id sub (codeOfMode m) n =
      if isReadMode m = true ∧ subMatches m sub = true then
        if 1 ≤ n ∧ n ≤ s.params.maxBody then (s.spiRead (hdr id sub m) n).reply (replyResult n s.spiReply)
        else s.reply (.err .length)
      else s.reply (.err .mode) := by
  simp only [State.readFrame, checkRead, checkFields_inRange m hid hsub]
  cases isReadMode m <;> cases subMatches m sub
  case true.true =>
    by_cases hlow : n < 1
    · simp [hlow]
    · by_cases hhigh : s.params.maxBody < n
      · simp [hlow, hhigh, Nat.not_le.2 hhigh]
      · simp [hlow, hhigh, Nat.le_of_not_lt hhigh, Nat.le_of_not_lt hlow]
  all_goals rfl

/-- The verdict on a reply is the one R116 gives. -/
theorem readResult_replyResult (n : Nat) (reply : Option (List Byte)) : readResult n reply (replyResult n reply) := by
  cases reply with
  | none => exact ⟨fun _ => rfl, fun d hd => by cases hd⟩
  | some r =>
    refine ⟨fun h => (by cases h), ?_⟩
    rintro d ⟨⟩
    refine ⟨fun h => ?_, fun h => ?_, fun h => ?_⟩
    · simp only [replyResult, h, if_true, Result.err]
    · simp only [replyResult, h, Nat.not_lt.2 h.le, if_true, if_false, Result.err]
    · simp only [replyResult, h, lt_irrefl, if_false, Result.done]

end Sys2Proof.Machine

open Sys2Proof Sys2Proof.Machine Sys2Proof.Spec

/-- Settles O27: the clauses of the statement are the branches of `writeFrame_inRange`. -/
theorem wframeSendsOneFrame : Obligations.WframeSendsOneFrame := by
  intro id sub mode body s
  refine ⟨fun h => State.writeFrame_outOfRange fun ⟨hid, hsub, hmode, _⟩ => h ⟨hid, hmode, hsub⟩, ?_⟩
  intro hid hmode hsub hb
  obtain ⟨m, rfl⟩ := exists_mode_of_code hmode
  have refused (h : ¬(isWriteMode m = true ∧ subMatches m sub = true)) :
      exec (.wframe id sub (codeOfMode m) body) s = failed s .mode := by
    simp only [exec, execWframe, s.writeFrame_inRange m hid hsub hb, if_neg h]
    rfl
  rw [isWriteMode_iff, subMatches_iff] at refused
  refine ⟨fun h => refused (by omega), fun h hsome => refused fun hm => ?_, fun h hnone => refused fun hm => ?_, ?_⟩
  · exact absurd (hm.2.2 hsome) (by omega)
  · exact hm.2.1 (by omega) hnone
  · intro h h0 hh
    obtain ⟨hread, hm, rfl⟩ := hdr_of_writeHeader hh
    have hwrite : isWriteMode m = true := (isWriteMode_iff_not_read m).2 ⟨h0, hread⟩
    simp only [← bodyLengthOk_iff hread, exec, execWframe, s.writeFrame_inRange m hid hsub hb,
      if_pos (And.intro hwrite hm)]
    exact ⟨fun hl => by rw [if_neg hl]; rfl, fun hl => by rw [if_pos hl]⟩

/-- Settles O28: the clauses of the statement are the branches of `readFrame_inRange`. -/
theorem rframeReadsExactly : Obligations.RframeReadsExactly := by
  intro id sub mode n s
  refine ⟨fun h => State.readFrame_outOfRange fun ⟨hid, hsub, hmode⟩ => h ⟨hid, hmode, hsub⟩, ?_⟩
  intro hid hmode hsub
  obtain ⟨m, rfl⟩ := exists_mode_of_code hmode
  have refused (h : ¬(isReadMode m = true ∧ subMatches m sub = true)) :
      exec (.rframe id sub (codeOfMode m) n) s = failed s .mode := by
    simp only [exec, execRframe, s.readFrame_inRange m n hid hsub, if_neg h]
    rfl
  have checked (hread : isReadMode m = true) (hm : subMatches m sub = true) :
      (¬(1 ≤ n ∧ n ≤ s.params.maxBody) → exec (.rframe id sub (codeOfMode m) n) s = failed s .length) ∧
      (1 ≤ n → n ≤ s.params.maxBody → ReadDone (.rframe id sub (codeOfMode m) n) s (hdr id sub m) n) := by
    simp only [ReadDone, exec, execRframe, s.readFrame_inRange m n hid hsub, if_pos (And.intro hread hm)]
    exact ⟨fun hn => by rw [if_neg hn]; rfl, fun hlow hhigh =>
      ⟨_, by rw [if_pos ⟨hlow, hhigh⟩], readResult_replyResult n s.spiReply⟩⟩
  rw [isReadMode_iff, subMatches_iff] at refused checked
  refine ⟨fun h1 h3 => refused (by omega), fun h hsome => refused fun hm => ?_,
    fun h hnone => refused fun hm => ?_, ?_, ?_⟩
  · exact absurd (hm.2.2 hsome) (by omega)
  · exact hm.2.1 (by omega) hnone
  · rintro h rfl
    have hr : hdr id none m = shortHeader 0 id 0 := by
      cases m <;> cases h
      exact headerH1_eq_shortHeader 0 id 0
    rw [← hr]
    exact checked (.inl h) (by simp; omega)
  · rintro x h rfl
    have hr : hdr id (some x) m = longHeader 0 id x 0 := by
      cases m <;> cases h
      exact hdr_of_full_read id x
    rw [← hr]
    exact checked (.inr h) (by simp; omega)
end

section
/-! SUPPORT. CHKW (40_transport_codec R118, R122): its verdict with and without a CRC byte to check, as one equation each. -/

namespace Sys2Proof.Machine

open Sys2Proof.Spec

/-! ## From results back to the decoder -/

theorem next_reply_inj {s : State} {r r' : Result}
    (h : (Host.Outcome.next (s.reply r) : Answer) = .next (s.reply r')) : r = r' := by
  rw [Host.Outcome.next.injEq] at h
  simpa using congrArg State.result h

theorem decodeHeader_of_dechdr_answered {frame : List Byte} {s : State} {id : Nat} {sub : Option Nat} {m : Mode}
    {hlen : Nat} (h : exec (.dechdr (ofBytes frame)) s = answered s (.header id sub m hlen)) :
    decodeHeader frame = .ok ⟨id, sub, m, hlen⟩ := by
  rw [← toBytes_ofBytes frame]
  exact exec_dechdr_inv h rfl

theorem decodeHeader_of_dechdr_failed {frame : List Byte} {s : State} {c : Code} (hc : c ≠ .ok)
    (h : exec (.dechdr (ofBytes frame)) s = failed s c) : ∃ e, decodeHeader frame = .error e ∧ headerCode e = c := by
  rw [exec_dechdr_ofBytes] at h
  have hr := next_reply_inj h
  unfold decodeResult at hr
  split at hr
  · rename_i e hd
    exact ⟨e, hd, congrArg Result.code hr⟩
  · exact absurd (congrArg Result.code hr).symm hc

/-! ## The verdict -/

theorem exec_chkw_ofBytes (frame : List Byte) (crc : Bool) (s : State) :
    exec (.chkw (ofBytes frame) crc) s =
      .next (s.reply (checkFrame s.params.maxBody s.params.fastcmdCrc frame crc)) := by
  simp only [exec, execChkw, areBytes_ofBytes, toBytes_ofBytes, if_true]

theorem isReadMode_iff_mode (m : Mode) : isReadMode m = true ↔ m = .sr ∨ m = .fr := by
  cases m <;> simp [isReadMode]

/-- A CRC byte follows the body of a frame of this mode (R118). -/
def CrcExpected (crc : Bool) (s : State) (m : Mode) : Prop := crc = true ∧ (m ≠ .fc ∨ s.params.fastcmdCrc = true)

theorem crcTail_of_expected {crc : Bool} {s : State} {m : Mode} (h : CrcExpected crc s m) (bytes : List Byte) :
    crcTail crc s m bytes = [crc8 bytes 0#8] := if_pos h

theorem crcTail_of_not_expected {crc : Bool} {s : State} {m : Mode} (h : ¬CrcExpected crc s m) (bytes : List Byte) :
    crcTail crc s m bytes = [] := if_neg h

section
variable {frame : List Byte} {crc : Bool} {s : State} {h : Header}

theorem exec_chkw_of_error {e : HeaderError} (hd : decodeHeader frame = .error e) :
    exec (.chkw (ofBytes frame) crc) s = failed s (headerCode e) := by
  rw [exec_chkw_ofBytes, checkFrame, hd]
  rfl

theorem exec_chkw_of_read (hd : decodeHeader frame = .ok h) (hm : isReadMode h.mode = true) :
    exec (.chkw (ofBytes frame) crc) s = failed s .mode := by
  simp only [exec_chkw_ofBytes, checkFrame, hd, hm, if_true]
  rfl

theorem exec_chkw_of_crc (hd : decodeHeader frame = .ok h) (hm : isReadMode h.mode = false)
    (hc : CrcExpected crc s h.mode) :
    exec (.chkw (ofBytes frame) crc) s = .next (s.reply (checkBody s.params.maxBody frame h 1)) := by
  simp only [exec_chkw_ofBytes, checkFrame, hd, hm]
  rw [if_neg (by decide), if_pos (by simpa [CrcExpected] using hc)]

theorem exec_chkw_of_plain (hd : decodeHeader frame = .ok h) (hm : isReadMode h.mode = false)
    (hc : ¬CrcExpected crc s h.mode) :
    exec (.chkw (ofBytes frame) crc) s = .next (s.reply (checkBody s.params.maxBody frame h 0)) := by
  simp only [exec_chkw_ofBytes, checkFrame, hd, hm]
  rw [if_neg (by decide), if_neg (by simpa [CrcExpected] using hc)]

end

/-- With no CRC byte, all that follows the header is the body. -/
theorem checkBody_plain {maxBody : Nat} {frame : List Byte} {h : Header} (hlen : h.hlen ≤ frame.length)
    (hm : isReadMode h.mode = false) :
    (¬BodyLegal maxBody (codeOfMode h.mode) (frame.length - h.hlen) → checkBody maxBody frame h 0 = ⟨.length, .none⟩) ∧
    (BodyLegal maxBody (codeOfMode h.mode) (frame.length - h.hlen) →
      checkBody maxBody frame h 0 = ⟨.ok, .received h.id h.sub h.mode (frame.drop h.hlen)⟩) := by
  have hlong : ¬frame.length < h.hlen := by omega
  simp only [checkBody, ← bodyLengthOk_iff hm, Nat.add_zero, Nat.sub_zero, hlong, if_false, zero_ne_one, false_and,
    List.take_length, List.length_drop]
  exact ⟨fun hl => by rw [if_neg hl]; rfl, fun hl => by rw [if_pos hl]; rfl⟩

theorem checkBody_tooShort {maxBody : Nat} {frame : List Byte} {h : Header} (hlen : frame.length < h.hlen + 1) :
    checkBody maxBody frame h 1 = ⟨.length, .none⟩ := by
  rw [checkBody, if_pos hlen]
  rfl

/-- The CRC over the header, then over the body, is the CRC over both (R119). -/
theorem crc8_take_drop (bytes : List Byte) (k : Nat) (i : Byte) :
    crc8 (bytes.drop k) (crc8 (bytes.take k) i) = crc8 bytes i := by
  rw [← crc8_append, List.take_append_drop]

/-- With a CRC byte, it is checked against all before it, and then the length of the body between. -/
theorem checkBody_crc {maxBody : Nat} {pre : List Byte} {c : Byte} {h : Header} (hlen : h.hlen ≤ pre.length)
    (hm : isReadMode h.mode = false) :
    (crc8 pre 0#8 ≠ c → checkBody maxBody (pre ++ [c]) h 1 = ⟨.crcMismatch, .none⟩) ∧
    (crc8 pre 0#8 = c →
      (¬BodyLegal maxBody (codeOfMode h.mode) (pre.length - h.hlen) →
        checkBody maxBody (pre ++ [c]) h 1 = ⟨.length, .none⟩) ∧
      (BodyLegal maxBody (codeOfMode h.mode) (pre.length - h.hlen) →
        checkBody maxBody (pre ++ [c]) h 1 = ⟨.ok, .received h.id h.sub h.mode (pre.drop h.hlen)⟩)) := by
  have hlong : ¬pre.length + 1 < h.hlen + 1 := by omega
  have hlast : (pre ++ [c]).getD pre.length 0#8 = c := by simp
  have hbody : (pre ++ [c]).take pre.length = pre := by simp
  have hhead : (pre ++ [c]).take h.hlen = pre.take h.hlen := List.take_append_of_le_length hlen
  simp only [checkBody, ← bodyLengthOk_iff hm, List.length_append, List.length_singleton, Nat.add_sub_cancel, hlong,
    if_false, hlast, hbody, hhead, crc8_take_drop, true_and, List.length_drop]
  refine ⟨fun hc => by rw [if_pos hc]; rfl, fun hc => ?_⟩
  rw [if_neg (not_not.2 hc)]
  exact ⟨fun hl => by rw [if_neg hl]; rfl, fun hl => by rw [if_pos hl]; rfl⟩

/-! ## The frames that are sent -/

/-- CHKW accepts the encoder's header with a body of legal length and the CRC byte it expects. -/
theorem exec_chkw_frame {id : Nat} {sub : Option Nat} {m : Mode} {body : List Byte} (crc : Bool) {s : State}
    (hid : id ≤ 31) (hsub : SubLegal sub) (hm : subMatches m sub = true) (hread : isReadMode m = false)
    (hl : BodyLegal s.params.maxBody (codeOfMode m) body.length) :
    exec (.chkw (ofBytes (hdr id sub m ++ body ++ crcTail crc s m (hdr id sub m ++ body))) crc) s =
      answered s (.received id sub m body) := by
  have hd (tail : List Byte) := decodeHeader_hdr hid hsub hm (body ++ tail)
  simp only [← List.append_assoc] at hd
  have hlen : (hdr id sub m).length = if codeOfMode m ≤ 2 then 1 else 2 := by
    rw [hdr, encodeHeader_length, headerLength_eq]
  rw [← hlen] at hd
  have hbody : (hdr id sub m ++ body).length - (hdr id sub m).length = body.length := by simp
  by_cases hc : CrcExpected crc s m
  · rw [crcTail_of_expected hc, exec_chkw_of_crc (hd _) hread hc]
    obtain ⟨-, hgood⟩ := checkBody_crc (maxBody := s.params.maxBody) (pre := hdr id sub m ++ body)
      (c := crc8 (hdr id sub m ++ body) 0#8) (h := ⟨id, sub, m, (hdr id sub m).length⟩) (by simp) hread
    rw [(hgood rfl).2 (by rwa [hbody]), List.drop_left]
    rfl
  · rw [crcTail_of_not_expected hc, exec_chkw_of_plain (hd _) hread hc]
    obtain ⟨-, hgood⟩ := checkBody_plain (maxBody := s.params.maxBody) (frame := hdr id sub m ++ body)
      (h := ⟨id, sub, m, (hdr id sub m).length⟩) (by simp) hread
    rw [List.append_nil, hgood (by rwa [hbody]), List.drop_left]
    rfl

/-- The frame a transaction reports ends with the CRC byte that CHKW expects, when both agree that there is one. -/
theorem frame_of_sent {s s' : State} {h b f : List Byte} {withCrc crc : Bool} {m : Mode} {c : Code}
    (hr : (sent s h b withCrc).result = some ⟨c, .frame f⟩) (hagree : withCrc = true ↔ CrcExpected crc s' m) :
    f = h ++ b ++ crcTail crc s' m (h ++ b) := by
  cases withCrc with
  | true =>
    rw [crcTail_of_expected (hagree.1 rfl)]
    cases hr
    rfl
  | false =>
    rw [crcTail_of_not_expected fun hc => Bool.false_ne_true (hagree.2 hc)]
    cases hr
    exact (List.append_nil _).symm

end Sys2Proof.Machine

open Sys2Proof Sys2Proof.Machine Sys2Proof.Spec

/-- Settles O36: the order of the clauses is the order of the checks. -/
theorem chkwOrdersItsVerdicts : Obligations.ChkwOrdersItsVerdicts := by
  intro frame crc s
  refine ⟨fun c hc h => ?_, fun id sub m hlen h => ?_⟩
  · obtain ⟨e, hd, rfl⟩ := decodeHeader_of_dechdr_failed hc h
    exact exec_chkw_of_error hd
  · have hd := decodeHeader_of_dechdr_answered h
    refine ⟨fun hread => exec_chkw_of_read hd ((isReadMode_iff_mode m).2 hread), fun hsr hfr => ?_⟩
    have hm : isReadMode m = false := by
      rw [← Bool.not_eq_true, isReadMode_iff_mode]
      exact not_or.2 ⟨hsr, hfr⟩
    refine ⟨fun hcrc hfc => ?_, fun hplain => ?_⟩
    · rw [exec_chkw_of_crc hd hm ⟨hcrc, hfc⟩]
      refine ⟨fun hshort => by rw [checkBody_tooShort hshort]; rfl, ?_⟩
      rintro pre c rfl hpre
      obtain ⟨hbad, hgood⟩ := checkBody_crc (maxBody := s.params.maxBody) (c := c) (h := ⟨id, sub, m, hlen⟩) hpre hm
      refine ⟨fun hc => ?_, fun hc hl => ?_, fun hc hl => ?_⟩
      · rw [hbad hc]; rfl
      · rw [(hgood hc).1 hl]; rfl
      · rw [(hgood hc).2 hl]; rfl
    · have hnone : ¬CrcExpected crc s m := by
        rintro ⟨hcrc, hfc⟩
        rcases hplain with hf | ⟨rfl, hf⟩ <;> simp_all
      have hlen' : hlen ≤ frame.length := by
        obtain ⟨-, -, -, -, hle, -⟩ := decodeHeader_ok hd
        exact hle
      obtain ⟨hbad, hgood⟩ := checkBody_plain (maxBody := s.params.maxBody) (h := ⟨id, sub, m, hlen⟩) hlen' hm
      rw [exec_chkw_of_plain hd hm hnone]
      exact ⟨fun hl => by rw [hbad hl]; rfl, fun hl => by rw [hgood hl]; rfl⟩

/-- Settles O37: a command that offered a frame had passed its checks, so the frame is one that CHKW accepts. -/
theorem chkwAcceptsWhatWasSent : Obligations.ChkwAcceptsWhatWasSent := by
  constructor
  · intro id sub mode body s t c f ht hr
    cases ht
    obtain ⟨e, -, -, hw⟩ | ⟨h, b, hchecked, hw⟩ := s.writeFrame_cases id sub mode body
    · rw [hw] at hr
      cases hr
    · obtain ⟨m, hmode, hid, hsub, -, hwrite, hm, hl, rfl, rfl⟩ := checkWrite_ok hchecked
      rw [hw, State.sendFrame_eq_sent] at hr
      obtain ⟨h0, hread⟩ := (isWriteMode_iff_not_read m).1 hwrite
      have hfc : m ≠ .fc := fun hm => h0 (by rw [hm]; rfl)
      refine ⟨m, codeOfMode_of_modeOfCode hmode, fun s' hp => ?_⟩
      rw [frame_of_sent (s' := s') (crc := s.regs.crcWriteMode) (m := m) hr (by simp [CrcExpected, hfc])]
      refine exec_chkw_frame _ hid ((subInRange_iff sub).1 hsub) hm hread ?_
      rw [← bodyLengthOk_iff hread, hp, toBytes_length]
      exact hl
  · intro code s t c f ht hr s' hp
    cases ht
    obtain ⟨-, hw⟩ | ⟨hcode, hw⟩ := s.fastFrame_cases code
    · rw [hw] at hr
      cases hr
    · rw [hw, State.sendFrame_eq_sent] at hr
      rw [frame_of_sent (s' := s') (crc := s.regs.crcWriteMode) (m := .fc) hr (by simp [CrcExpected, hp])]
      exact exec_chkw_frame _ hcode (by simp [SubLegal]) rfl rfl (by simp [BodyLegal, codeOfMode])
end

section
/-! SUPPORT. PACKLE and UNPACKLE (41_timestamp_codec R150, R151, R153): one equation for each command on operands in range,
and the two codec functions as inverses of each other, digit by digit. -/

namespace Sys2Proof.Machine

open Sys2Proof.Spec

/-! ## The commands -/

/-- A command that returned Ok had every operand in range: R82's check refuses all others. -/
theorem operandsInRange_of_ok {i : Instr} {s t : State} {out : Outputs} (ht : exec i s = .next t)
    (hr : t.result = some ⟨.ok, out⟩) : OperandsInRange i := by
  by_contra h
  rw [operandsOutOfRangeAreRefused i s h] at ht
  cases ht
  cases hr

theorem exec_packle {v w : Nat} (hv : v < 2 ^ 64) (hw : w ≤ 8) (s : State) :
    exec (.packle v w) s = answered s (.bytes (packLe v w)) := by
  have hmax : v ≤ u64Max := Nat.le_of_lt_succ hv
  simp only [exec, execPackle, hmax, hw, decide_true, Bool.and_self, if_true]
  rfl

theorem exec_unpackle {bytes : List Nat} (hb : AreBytes bytes) (hl : bytes.length ≤ 8) (s : State) :
    exec (.unpackle bytes) s = answered s (.value (BitVec.ofNat 64 (unpackLe (toBytes bytes)))) := by
  simp only [exec, execUnpackle, (areBytes_iff bytes).2 hb, hl, decide_true, Bool.and_self, if_true]
  rfl

/-! ## `pack_le` -/

@[simp] theorem packLe_length (v w : Nat) : (packLe v w).length = w := by simp [packLe]

/-- A weight in bits and in bytes. -/
theorem two_pow_eight_mul (k : Nat) : 2 ^ (8 * k) = 256 ^ k := pow_mul 2 8 k

theorem shiftRight_eight_mul (v k : Nat) : v >>> (8 * k) = v / 256 ^ k := by
  rw [Nat.shiftRight_eq_div_pow, two_pow_eight_mul]

/-- Byte k is the k-th base-256 digit (R150). -/
theorem toNat_of_packLe_getElem? {v w k : Nat} {b : Byte} (h : (packLe v w)[k]? = some b) :
    b.toNat = v / 256 ^ k % 256 := by
  simp only [packLe, List.getElem?_map, Option.map_eq_some_iff, List.getElem?_eq_some_iff, List.getElem_range] at h
  obtain ⟨k, ⟨-, rfl⟩, rfl⟩ := h
  rw [BitVec.toNat_ofNat, shiftRight_eight_mul]

/-- The lowest byte first, then the bytes of what is left above it. -/
theorem packLe_succ (v w : Nat) : packLe v (w + 1) = BitVec.ofNat 8 v :: packLe (v / 256) w := by
  simp [packLe, List.range_succ_eq_map, shiftRight_eight_mul, pow_succ', Nat.div_div_eq_div_mul, Function.comp_def]

/-! ## `unpack_le` -/

theorem unpackLe_cons (b : Byte) (bs : List Byte) : unpackLe (b :: bs) = b.toNat + 256 * unpackLe bs := rfl

theorem unpackLe_eq_ofDigits (bs : List Byte) : unpackLe bs = Nat.ofDigits 256 (ofBytes bs) := by
  induction bs with
  | nil => rfl
  | cons b bs ih => rw [unpackLe_cons, ih]; exact Nat.ofDigits_cons.symm

theorem unpackLe_lt (bs : List Byte) : unpackLe bs < 2 ^ (8 * bs.length) := by
  have hb : AreBytes (ofBytes bs) := (areBytes_iff _).1 (areBytes_ofBytes bs)
  rw [unpackLe_eq_ofDigits, two_pow_eight_mul, ← ofBytes_length bs]
  exact Nat.ofDigits_lt_base_pow_length (by decide) fun x hx => Nat.lt_succ_of_le (hb x hx)

/-- Eight bytes fit the 64-bit output (R151). -/
theorem toNat_ofNat_unpackLe {bs : List Byte} (hl : bs.length ≤ 8) :
    (BitVec.ofNat 64 (unpackLe bs)).toNat = unpackLe bs :=
  Nat.mod_eq_of_lt ((unpackLe_lt bs).trans_le (Nat.pow_le_pow_right (by decide) (by omega)))

/-! ## The round trips -/

theorem unpackLe_packLe (v w : Nat) : unpackLe (packLe v w) = v % 2 ^ (8 * w) := by
  rw [two_pow_eight_mul]
  induction w generalizing v with
  | zero => exact (Nat.mod_one v).symm
  | succ w ih =>
    calc unpackLe (packLe v (w + 1)) = v % 256 + 256 * (v / 256 % 256 ^ w) := by
          rw [packLe_succ, unpackLe_cons, ih, BitVec.toNat_ofNat]
      _ = v % (256 * 256 ^ w) := Nat.mod_mul.symm
      _ = v % 256 ^ (w + 1) := by rw [pow_succ']

theorem packLe_unpackLe (bs : List Byte) : packLe (unpackLe bs) bs.length = bs := by
  induction bs with
  | nil => rfl
  | cons b bs ih =>
    have hb := b.isLt
    have hlow : BitVec.ofNat 8 (unpackLe (b :: bs)) = b := by
      apply BitVec.eq_of_toNat_eq
      rw [BitVec.toNat_ofNat, unpackLe_cons]
      omega
    have hhigh : unpackLe (b :: bs) / 256 = unpackLe bs := by
      rw [unpackLe_cons]
      omega
    rw [List.length_cons, packLe_succ, hlow, hhigh, ih]

end Sys2Proof.Machine

open Sys2Proof Sys2Proof.Machine Sys2Proof.Spec

/-- Settles O39: the bytes are those of `packLe`, and an operand out of range is refused by O14. -/
theorem packleGivesTheDigits : Obligations.PackleGivesTheDigits := by
  intro v w s
  refine ⟨fun h => operandsOutOfRangeAreRefused (.packle v w) s fun ⟨hv, hw⟩ => ?_, fun hw hv => ?_⟩
  · omega
  · exact ⟨packLe v w, exec_packle hv hw s, packLe_length v w, fun _ _ => toNat_of_packLe_getElem?⟩

/-- Settles O40: the value is `unpackLe` of the bytes, which 64 bits hold for up to 8 bytes. -/
theorem unpackleGivesTheSum : Obligations.UnpackleGivesTheSum := by
  intro bytes s
  refine ⟨fun h => operandsOutOfRangeAreRefused (.unpackle bytes) s fun ⟨_, hl⟩ => ?_, fun hl hb => ?_⟩
  · omega
  · have hlen := toBytes_length bytes
    refine ⟨_, exec_unpackle hb hl s, ?_⟩
    rw [toNat_ofNat_unpackLe (hlen.trans_le hl)]
    refine ⟨?_, hlen ▸ unpackLe_lt (toBytes bytes)⟩
    rw [unpackLe_eq_ofDigits, ofBytes_toBytes ((areBytes_iff bytes).2 hb)]

/-- Settles O41: a command that returned Ok had its operands in range, so its output is that of the codec function, and
`unpackLe_packLe` and `packLe_unpackLe` are the round trips. -/
theorem timestampRoundTrips : Obligations.TimestampRoundTrips := by
  constructor
  · intro v w s s' t bs ht hr
    obtain ⟨hv, hw⟩ := operandsInRange_of_ok ht hr
    rw [exec_packle hv hw] at ht
    cases ht
    cases hr
    have hround : exec (.unpackle (ofBytes (packLe v w))) s' =
        answered s' (.value (BitVec.ofNat 64 (v % 2 ^ (8 * w)))) := by
      rw [exec_unpackle ((areBytes_iff _).1 (areBytes_ofBytes _)) (by simpa using hw), toBytes_ofBytes, unpackLe_packLe]
    exact ⟨hround, fun hfits => by rw [hround, Nat.mod_eq_of_lt hfits]⟩
  · intro bytes s s' t v ht hr
    obtain ⟨hb, hl⟩ := operandsInRange_of_ok ht hr
    rw [exec_unpackle hb hl] at ht
    cases ht
    cases hr
    rw [exec_packle (BitVec.isLt _) hl, toNat_ofNat_unpackLe ((toBytes_length bytes).trans_le hl),
      ← toBytes_length bytes, packLe_unpackLe]
end

section
/-! SUPPORT. PBOOST (42_timing_budget R173 to R175, R184): the entry of each region, and the boost as an antitone function of
the duration. -/

namespace Sys2Proof.Machine

open Sys2Proof.Spec

theorem exec_pboost {d : Nat} (hd : d < 2 ^ 32) (s : State) :
    exec (.pboost d) s = answered s (.boost (powerBoost s.tables d)) := by
  simp only [exec, execPboost, (isU32_iff d).2 hd, if_true]
  rfl

/-! ## The regions -/

theorem nearestIndex_mono {x y : Nat} (h : x ≤ y) (w : Nat) : nearestIndex x w ≤ nearestIndex y w :=
  Nat.div_le_div_right (by omega)

theorem nearestIndex_lut1_le {d : Nat} (h : 200 < d) : nearestIndex (1000 - d) 25 ≤ 32 := by
  unfold nearestIndex
  omega

theorem nearestIndex_lut2_le {d : Nat} (h : 70 ≤ d) : nearestIndex (200 - d) 10 ≤ 13 := by
  unfold nearestIndex
  omega

theorem le_nearestIndex_lut2 {d : Nat} (h : d ≤ 70) : 13 ≤ nearestIndex (200 - d) 10 := by
  unfold nearestIndex
  omega

theorem powerBoost_long {d : Nat} (h : 1000 ≤ d) (t : Tables) : powerBoost t d = 0#8 := if_pos h

theorem powerBoost_lut1 {d : Nat} (h : 200 < d) (h' : d < 1000) (t : Tables) :
    powerBoost t d = boostEntry t.lut1 (nearestIndex (1000 - d) 25) := by
  rw [powerBoost, if_neg (by omega), if_pos h]

theorem powerBoost_lut2 {d : Nat} (h : 70 ≤ d) (h' : d ≤ 200) (t : Tables) :
    powerBoost t d = boostEntry t.lut2 (nearestIndex (200 - d) 10) := by
  rw [powerBoost, if_neg (by omega), if_neg (by omega), if_pos h]

theorem powerBoost_short {d : Nat} (h : d < 70) (t : Tables) : powerBoost t d = boostEntry t.lut2 13 := by
  rw [powerBoost, if_neg (by omega), if_neg (by omega), if_neg (by omega)]

/-- Below the LUT2 region the index stays at its last value, so one formula serves both regions. -/
theorem powerBoost_of_le_200 {d : Nat} (h : d ≤ 200) (t : Tables) :
    powerBoost t d = boostEntry t.lut2 (min (nearestIndex (200 - d) 10) 13) := by
  by_cases h70 : 70 ≤ d
  · rw [powerBoost_lut2 h70 h, min_eq_left (nearestIndex_lut2_le h70)]
  · rw [powerBoost_short (by omega), min_eq_right (le_nearestIndex_lut2 (by omega))]

/-! ## Monotonicity under the constraints of R172 -/

theorem lutEntry_monotoneOn {lut : List Byte} {n : Nat} (h : ∀ i < n, lutEntry lut i ≤ lutEntry lut (i + 1)) :
    MonotoneOn (lutEntry lut) (Set.Iic n) :=
  monotoneOn_of_le_add_one Set.ordConnected_Iic fun i _ _ hi => h i hi

theorem toNat_boostEntry (lut : List Byte) (i : Nat) : (boostEntry lut i).toNat = lutEntry lut i := rfl

/-- 68, where LUT1 ends and LUT2 begins, separates the two regions. -/
theorem powerBoost_antitone {t : Tables} (h1 : Lut1Ok t.lut1) (h2 : Lut2Ok t.lut2) :
    Antitone fun d => (powerBoost t d).toNat := by
  obtain ⟨-, -, hlast, hstep1, -⟩ := h1
  obtain ⟨-, hfirst, -, hstep2⟩ := h2
  have mono1 := lutEntry_monotoneOn hstep1
  have mono2 := lutEntry_monotoneOn hstep2
  intro d d' hd
  change (powerBoost t d').toNat ≤ (powerBoost t d).toNat
  by_cases hlong : 1000 ≤ d'
  · rw [powerBoost_long hlong]
    exact Nat.zero_le _
  by_cases hd' : 200 < d'
  · rw [powerBoost_lut1 hd' (by omega), toNat_boostEntry]
    have hi' : nearestIndex (1000 - d') 25 ≤ 32 := nearestIndex_lut1_le hd'
    by_cases hd1 : 200 < d
    · rw [powerBoost_lut1 hd1 (by omega), toNat_boostEntry]
      exact mono1 hi' (nearestIndex_lut1_le hd1) (nearestIndex_mono (by omega) 25)
    · rw [powerBoost_of_le_200 (by omega), toNat_boostEntry]
      calc lutEntry t.lut1 (nearestIndex (1000 - d') 25)
          ≤ lutEntry t.lut1 32 := mono1 hi' (Set.mem_Iic.2 le_rfl) hi'
        _ = lutEntry t.lut2 0 := hlast.trans hfirst.symm
        _ ≤ lutEntry t.lut2 (min (nearestIndex (200 - d) 10) 13) :=
          mono2 (Set.mem_Iic.2 (Nat.zero_le 13)) (Set.mem_Iic.2 (min_le_right _ _)) (Nat.zero_le _)
  · rw [powerBoost_of_le_200 (by omega), powerBoost_of_le_200 (by omega), toNat_boostEntry, toNat_boostEntry]
    exact mono2 (Set.mem_Iic.2 (min_le_right _ _)) (Set.mem_Iic.2 (min_le_right _ _))
      (min_le_min_right 13 (nearestIndex_mono (by omega) 10))

theorem powerBoost_of_le_70 {t : Tables} (h2 : Lut2Ok t.lut2) {d : Nat} (h : d ≤ 70) : powerBoost t d = 113#8 := by
  obtain ⟨-, -, hlast, -⟩ := h2
  rw [powerBoost_of_le_200 (by omega), min_eq_right (le_nearestIndex_lut2 h)]
  exact BitVec.eq_of_toNat_eq hlast

end Sys2Proof.Machine

open Sys2Proof Sys2Proof.Machine Sys2Proof.Spec

/-- Settles O42: the regions of `powerBoost` and the bounds of its indices; a duration above 2^32 - 1 is refused by O14. -/
theorem pboostLooksUpItsRegion : Obligations.PboostLooksUpItsRegion := by
  intro d s
  refine ⟨fun h => operandsOutOfRangeAreRefused (.pboost d) s (Nat.not_lt.2 h), fun hd => ?_⟩
  rw [exec_pboost hd]
  refine ⟨fun h => ?_, fun h h' => ⟨nearestIndex_lut1_le h, ?_⟩, fun h h' => ⟨nearestIndex_lut2_le h, ?_⟩, fun h => ?_⟩
  · rw [powerBoost_long h]
  · rw [powerBoost_lut1 h h']
    rfl
  · rw [powerBoost_lut2 h h']
    rfl
  · rw [powerBoost_short h]
    rfl

/-- Settles O44: `powerBoost` is antitone under the constraints of R172, and constant at both ends. -/
theorem pboostNeverIncreases : Obligations.PboostNeverIncreases := by
  intro s h1 h2
  refine ⟨fun d d' hd hd' => ?_, fun d h hd => ?_, fun d h => ?_⟩
  · exact ⟨_, _, exec_pboost (by omega) s, exec_pboost hd' s, powerBoost_antitone h1 h2 hd⟩
  · rw [exec_pboost hd, powerBoost_long h]
  · rw [exec_pboost (by omega), powerBoost_of_le_70 h2 h]
end

section
/-! SUPPORT. The conversions (42_timing_budget R186 to R189): one equation for each command on operands in range, and
`dtu_to_us` and `dtu_diff` in the library's terms. -/

namespace Sys2Proof.Machine

open Sys2Proof.Spec

theorem not_fitsU32_iff (x : Nat) : (!fitsU32 x) = true ↔ 2 ^ 32 ≤ x := by
  rw [Bool.not_eq_true', Bool.eq_false_iff, Ne, fitsU32_iff, Nat.not_lt]

theorem exec_uus2dtu {u : Nat} (hu : u < 2 ^ 32) (s : State) :
    exec (.uus2dtu u) s =
      if 2 ^ 32 ≤ uusToDtu s.params u then .fault .rangeOverflow else answered s (.dtu (uusToDtu s.params u)) := by
  simp only [exec, execUus2dtu, (isU32_iff u).2 hu, Bool.not_true, Bool.false_eq_true, if_false, not_fitsU32_iff]
  rfl

theorem exec_us2dtu {us : Nat} (hu : us < 2 ^ 32) (s : State) :
    exec (.us2dtu us) s =
      if 2 ^ 32 ≤ usToDtu s.params us then .fault .rangeOverflow else answered s (.dtu (usToDtu s.params us)) := by
  simp only [exec, execUs2dtu, (isU32_iff us).2 hu, Bool.not_true, Bool.false_eq_true, if_false, not_fitsU32_iff]
  rfl

theorem exec_dtu2us {d : Int} (hlo : -2147483648 ≤ d) (hhi : d ≤ 2147483647) (s : State) :
    exec (.dtu2us d) s = answered s (.us (dtuToUs s.params d)) := by
  simp only [exec, execDtu2us, hlo, hhi, decide_true, Bool.and_self, if_true]
  rfl

theorem exec_dtudiff {a b : Nat} (ha : a < 2 ^ 32) (hb : b < 2 ^ 32) (s : State) :
    exec (.dtudiff a b) s = answered s (.diff (dtuDiff (BitVec.ofNat 32 a) (BitVec.ofNat 32 b))) := by
  simp only [exec, execDtudiff, (isU32_iff a).2 ha, (isU32_iff b).2 hb, Bool.and_self, if_true]
  rfl

/-- Sign and magnitude, as the model computes it, is truncation toward zero. -/
theorem dtuToUs_eq_microseconds (p : Params) (d : Int) : dtuToUs p d = microseconds p d := by
  unfold dtuToUs microseconds
  split
  next h =>
    obtain ⟨n, rfl⟩ := Int.eq_ofNat_of_zero_le h
    rfl
  next h =>
    obtain ⟨n, hn⟩ := Int.eq_ofNat_of_zero_le (show 0 ≤ -d by omega)
    obtain rfl : d = -n := by omega
    rw [Int.natAbs_neg, Int.neg_mul, Int.neg_tdiv]
    rfl

theorem dtuDiff_ofNat (a b : Nat) :
    dtuDiff (BitVec.ofNat 32 a) (BitVec.ofNat 32 b) = ((a : Int) - b).bmod (2 ^ 32) := by
  simp only [dtuDiff, BitVec.toInt_sub, BitVec.toInt_ofNat', Int.bmod_sub_bmod, Int.sub_bmod_bmod]

theorem dtuDiff_ge (a b : Word32) : -(2 ^ 31) ≤ dtuDiff a b := BitVec.le_toInt (a - b)

theorem dtuDiff_lt (a b : Word32) : dtuDiff a b < 2 ^ 31 := BitVec.toInt_lt

end Sys2Proof.Machine

open Sys2Proof Sys2Proof.Machine Sys2Proof.Spec

/-- Settles O48: each conversion is the floor of R186 and R187, answered where it fits a u32 and a fault where it does not. -/
theorem conversionsToDtu : Obligations.ConversionsToDtu := by
  intro u s hu
  rw [exec_uus2dtu hu, exec_us2dtu hu]
  exact ⟨fun h => if_neg (Nat.not_le.2 h), fun h => if_pos h, fun h => if_neg (Nat.not_le.2 h), fun h => if_pos h⟩

/-- Settles O49: the output is `Int.tdiv`, and a value that is no s32 is refused by O14. -/
theorem dtu2usTruncates : Obligations.Dtu2usTruncates := by
  intro d s
  refine ⟨fun h => operandsOutOfRangeAreRefused (.dtu2us d) s fun ⟨hlo, hhi⟩ => h ⟨hlo, by omega⟩, fun hlo hhi => ?_⟩
  rw [exec_dtu2us hlo hhi, dtuToUs_eq_microseconds]

/-- Settles O50: the signed reading of a 32-bit word lies in the range of an s32, and that of a - b is the balanced remainder
of a - b modulo 2^32; an operand above 2^32 - 1 is refused by O14. -/
theorem dtudiffIsTheSignedDifference : Obligations.DtudiffIsTheSignedDifference := by
  intro a b s
  refine ⟨fun h => operandsOutOfRangeAreRefused (.dtudiff a b) s fun ⟨ha, hb⟩ => by omega, fun ha hb => ?_⟩
  refine ⟨_, exec_dtudiff ha hb s, dtuDiff_ge _ _, dtuDiff_lt _ _, ?_⟩
  rw [dtuDiff_ofNat]
  exact Int.emod_eq_zero_of_dvd Int.dvd_bmod_sub_self
end

section
/-! SUPPORT. RXDLY and RXTMO (42_timing_budget R176 to R183): one equation for each command on a legal frame shape, and
what a call that returned Ok says about its outputs. -/

namespace Sys2Proof.Machine

open Sys2Proof.Spec

/-! ## Legal shapes -/

theorem legalRate_iff (rate : DataRate) : legalRate rate = true ↔ rate = .r6m8 ∨ rate = .r850k := by
  cases rate <;> simp [legalRate]

theorem shapeLegal_iff (base plen : Nat) (rate : DataRate) (sts : Nat) :
    shapeLegal base plen rate sts = true ↔ base < 2 ^ 32 ∧ ShapeLegal plen rate sts := by
  simp only [shapeLegal, Bool.and_eq_true, isU32_iff, legalRate_iff, legalPlen, legalSts, List.contains_iff_mem,
    ShapeLegal, and_assoc]

/-- R176 on the legal lengths: the subtracted preamble is capped at 2048. -/
theorem subPlen_eq_min {plen : Nat} {rate : DataRate} {sts : Nat} (h : ShapeLegal plen rate sts) :
    subPlen plen = min plen 2048 := by
  obtain ⟨hp, -, -⟩ := h
  simp only [List.mem_cons, List.not_mem_nil, or_false] at hp
  unfold subPlen
  split <;> omega

theorem ratePen_eq (rate : DataRate) : ratePen rate = if rate = .r850k then 200 else 0 := by
  cases rate <;> rfl

theorem stsTerm_of_shapeLegal {plen : Nat} {rate : DataRate} {sts : Nat} (h : ShapeLegal plen rate sts) :
    stsTerm sts = sts := by
  obtain ⟨-, -, hs⟩ := h
  exact stsTerm_eq (List.contains_iff_mem.2 hs)

theorem turnOnUus_eq {plen : Nat} {rate : DataRate} {sts : Nat} (h : ShapeLegal plen rate sts) (base : Nat) :
    turnOnUus base plen sts = base - subPlen plen + sts := by
  rw [turnOnUus, stsTerm_of_shapeLegal h]
  simp only [underflows, decide_eq_true_eq]
  split <;> omega

theorem timeoutUus_eq {plen : Nat} {rate : DataRate} {sts : Nat} (h : ShapeLegal plen rate sts) (base : Nat) :
    timeoutUus base plen rate sts = base + ratePen rate + (plen - 128) + 500 + sts := by
  rw [timeoutUus, stsTerm_of_shapeLegal h]
  rfl

/-! ## The commands -/

theorem exec_rxdly_illegal {base plen : Nat} {rate : DataRate} {sts : Nat}
    (h : ¬(base < 2 ^ 32 ∧ ShapeLegal plen rate sts)) (s : State) :
    exec (.rxdly base plen rate sts) s = failed s .argRange :=
  answer_of_refused_check fun hc => h ((shapeLegal_iff ..).1 hc)

theorem exec_rxtmo_illegal {base plen : Nat} {rate : DataRate} {sts : Nat}
    (h : ¬(base < 2 ^ 32 ∧ ShapeLegal plen rate sts)) (s : State) :
    exec (.rxtmo base plen rate sts) s = failed s .argRange :=
  answer_of_refused_check fun hc => h ((shapeLegal_iff ..).1 hc)

theorem exec_rxdly {base plen : Nat} {rate : DataRate} {sts : Nat} (hb : base < 2 ^ 32) (h : ShapeLegal plen rate sts)
    (s : State) :
    exec (.rxdly base plen rate sts) s =
      if base < subPlen plen ∧ s.params.underflowPolicy = .fault then .fault .budgetUnderflow
      else if 2 ^ 32 ≤ base - subPlen plen + sts ∨ 2 ^ 32 ≤ uusToDtu s.params (base - subPlen plen + sts) then
        .fault .rangeOverflow
      else answered s (.delay (base - subPlen plen + sts) (uusToDtu s.params (base - subPlen plen + sts))
        (decide (base < subPlen plen))) := by
  simp only [exec, execRxdly, (shapeLegal_iff ..).2 ⟨hb, h⟩, turnOnUus_eq h, not_fitsU32_iff, ite_or, underflows,
    Bool.not_true, Bool.false_eq_true, if_false, Bool.and_eq_true, decide_eq_true_eq, beq_iff_eq]
  rfl

theorem exec_rxtmo {base plen : Nat} {rate : DataRate} {sts : Nat} (hb : base < 2 ^ 32) (h : ShapeLegal plen rate sts)
    (s : State) :
    exec (.rxtmo base plen rate sts) s =
      if 2 ^ 32 ≤ timeoutUus base plen rate sts ∨ 2 ^ 32 ≤ uusToDtu s.params (timeoutUus base plen rate sts) then
        .fault .rangeOverflow
      else answered s (.timeout (timeoutUus base plen rate sts) (uusToDtu s.params (timeoutUus base plen rate sts))
        false) := by
  simp only [exec, execRxtmo, (shapeLegal_iff ..).2 ⟨hb, h⟩, not_fitsU32_iff, ite_or, Bool.not_true,
    Bool.false_eq_true, if_false]
  rfl

/-! ## From results back to operands -/

theorem answered_inj {s : State} {out out' : Outputs} (h : answered s out = answered s out') : out = out' := by
  injection next_reply_inj h

theorem exec_rxdly_inv {base plen : Nat} {rate : DataRate} {sts u x : Nat} {uf : Bool} {s : State}
    (he : exec (.rxdly base plen rate sts) s = answered s (.delay u x uf)) :
    ShapeLegal plen rate sts ∧ u = base - min plen 2048 + sts ∧ x = uusToDtu s.params u := by
  by_cases h : base < 2 ^ 32 ∧ ShapeLegal plen rate sts
  · obtain ⟨hb, hs⟩ := h
    rw [exec_rxdly hb hs] at he
    split at he
    · cases he
    split at he
    · cases he
    · cases answered_inj he
      exact ⟨hs, by rw [subPlen_eq_min hs], rfl⟩
  · exact absurd (he.symm.trans (exec_rxdly_illegal h s)) (answered_ne_failed s _ (by decide))

theorem exec_rxtmo_inv {base plen : Nat} {rate : DataRate} {sts tot x : Nat} {uf : Bool} {s : State}
    (he : exec (.rxtmo base plen rate sts) s = answered s (.timeout tot x uf)) :
    ShapeLegal plen rate sts ∧ tot = base + ratePen rate + (plen - 128) + 500 + sts ∧ x = uusToDtu s.params tot := by
  by_cases h : base < 2 ^ 32 ∧ ShapeLegal plen rate sts
  · obtain ⟨hb, hs⟩ := h
    rw [exec_rxtmo hb hs] at he
    split at he
    · cases he
    · cases answered_inj he
      exact ⟨hs, timeoutUus_eq hs base, rfl⟩
  · exact absurd (he.symm.trans (exec_rxtmo_illegal h s)) (answered_ne_failed s _ (by decide))

theorem uusToDtu_mono (p : Params) : Monotone (uusToDtu p) := fun _ _ h =>
  Nat.div_le_div_right (Nat.mul_le_mul_right _ h)

end Sys2Proof.Machine

open Sys2Proof Sys2Proof.Machine Sys2Proof.Spec

/-- Settles O45: R179's steps in order, from `exec_rxdly`. -/
theorem rxdlyComputesTheDelay : Obligations.RxdlyComputesTheDelay := by
  intro base plen rate sts s
  refine ⟨fun h => exec_rxdly_illegal (fun ⟨_, hs⟩ => h hs) s, fun hb h => ?_⟩
  rw [exec_rxdly hb h]
  refine ⟨fun hlt hp => if_pos ⟨hlt, hp⟩, fun hclamp => ?_⟩
  have hnofault : ¬(base < subPlen plen ∧ s.params.underflowPolicy = .fault) := fun ⟨hlt, hp⟩ =>
    absurd ((hclamp hlt).symm.trans hp) (by decide)
  rw [if_neg hnofault]
  exact ⟨fun hu => if_pos (.inl hu), fun hx => if_pos (.inr hx), fun hu hx =>
    if_neg (not_or.2 ⟨Nat.not_le.2 hu, Nat.not_le.2 hx⟩)⟩

/-- Settles O46: R180's sum, from `exec_rxtmo`. -/
theorem rxtmoComputesTheTimeout : Obligations.RxtmoComputesTheTimeout := by
  intro base plen rate sts s
  refine ⟨fun h => exec_rxtmo_illegal (fun ⟨_, hs⟩ => h hs) s, fun hb h => ?_⟩
  rw [exec_rxtmo hb h, timeoutUus_eq h, ratePen_eq]
  exact ⟨fun ht => if_pos (.inl ht), fun hx => if_pos (.inr hx), fun ht hx =>
    if_neg (not_or.2 ⟨Nat.not_le.2 ht, Nat.not_le.2 hx⟩)⟩

/-- Settles O47: a call that returned Ok gives its outputs as sums of its operands, and the laws are those of the sums and
of the monotone conversion. -/
theorem budgetLaws : Obligations.BudgetLaws := by
  refine ⟨?_, ?_, ?_, ?_, ?_, ?_⟩
  · intro base p p' rate sts tot tot' x x' uf uf' s h h' hp
    obtain ⟨-, htot, -⟩ := exec_rxtmo_inv h
    obtain ⟨-, htot', -⟩ := exec_rxtmo_inv h'
    omega
  · intro base p sts tot tot' x x' uf uf' s h h'
    obtain ⟨-, htot, -⟩ := exec_rxtmo_inv h
    obtain ⟨-, htot', -⟩ := exec_rxtmo_inv h'
    simp only [ratePen] at htot htot'
    omega
  · intro base p p' rate sts u u' x x' uf uf' s h h' hp
    obtain ⟨-, hu, -⟩ := exec_rxdly_inv h
    obtain ⟨-, hu', -⟩ := exec_rxdly_inv h'
    omega
  · intro base base' p rate sts sts' u u' x x' uf uf' s h h' hb hsts
    obtain ⟨-, hu, rfl⟩ := exec_rxdly_inv h
    obtain ⟨-, hu', rfl⟩ := exec_rxdly_inv h'
    have hle : u ≤ u' := by omega
    exact ⟨hle, uusToDtu_mono s.params hle⟩
  · intro base base' p rate sts sts' tot tot' x x' uf uf' s h h' hb hsts
    obtain ⟨-, htot, rfl⟩ := exec_rxtmo_inv h
    obtain ⟨-, htot', rfl⟩ := exec_rxtmo_inv h'
    have hle : tot ≤ tot' := by omega
    exact ⟨hle, uusToDtu_mono s.params hle⟩
  · intro base p rate sts tot x uf s h
    obtain ⟨-, htot, -⟩ := exec_rxtmo_inv h
    omega
end

section
/-! SUPPORT. CXSTART and CXSTOP (43_coex_arbiter R201 to R205): one equation for each way the pin can be configured, what
a CXSTART that returned a schedule says about it, and the plan of R203 in the terms of R205. -/

namespace Sys2Proof.Machine

open Sys2Proof.Spec

/-! ## One equation for each command -/

theorem exec_cxstart_noPin {s : State} (hpin : s.regs.cxPin = none) (delayed : Bool) {date : Nat} (hd : date < 2 ^ 32) :
    exec (.cxstart delayed date) s = answered s (.schedule delayed (BitVec.ofNat 32 date) 0) := by
  simp only [exec, execCxstart, (isU32_iff date).2 hd, Bool.not_true, Bool.false_eq_true, if_false, hpin]
  rfl

theorem exec_cxstart_pin {s : State} {pin : Nat} (hpin : s.regs.cxPin = some pin) (delayed : Bool) {date : Nat}
    (hd : date < 2 ^ 32) :
    exec (.cxstart delayed date) s =
      if s.regs.cxPhase = .armed then .fault .coexReentry else .next (s.arm pin delayed (BitVec.ofNat 32 date)) := by
  simp only [exec, execCxstart, (isU32_iff date).2 hd, Bool.not_true, Bool.false_eq_true, if_false, hpin]

theorem exec_cxstop_noPin {s : State} (hpin : s.regs.cxPin = none) : exec .cxstop s = answered s .none := by
  simp only [exec, execCxstop, hpin]
  rfl

/-! ## From a schedule back to the plan -/

/-- Whether the pin could be driven or not, the outputs are the plan's. -/
theorem State.driveActive_outputs {s : State} {pin wait : Nat} {date : Word32} {c : Code} {out : Outputs}
    (h : (s.driveActive pin date wait).result = some ⟨c, out⟩) : out = .schedule true date wait := by
  obtain ⟨-, hd⟩ | ⟨-, -, hd⟩ := s.driveActive_cases pin date wait <;>
  · rw [hd, State.reply_result] at h
    cases h
    rfl

/-- With a pin, a call that returned a schedule was in range, and the schedule is the plan for the device time. -/
theorem exec_cxstart_schedule_inv {s t : State} {pin date wait : Nat} {delayed d : Bool} {now out : Word32} {c : Code}
    (hpin : s.regs.cxPin = some pin) (hnow : s.devTime = some now) (he : exec (.cxstart delayed date) s = .next t)
    (hr : t.result = some ⟨c, .schedule d out wait⟩) :
    d = true ∧ (out, wait) = coexPlan s.params delayed (BitVec.ofNat 32 date) now := by
  by_cases hd : date < 2 ^ 32
  · rw [exec_cxstart_pin hpin delayed hd] at he
    split at he
    · cases he
    cases he
    obtain ⟨hnone, -⟩ | ⟨now', hnow', harm⟩ := s.arm_cases pin delayed (BitVec.ofNat 32 date)
    · cases hnone.symm.trans hnow
    obtain rfl : now' = now := Option.some.inj (hnow'.symm.trans hnow)
    rw [harm] at hr
    cases State.driveActive_outputs hr
    exact ⟨rfl, rfl⟩
  · rw [operandsOutOfRangeAreRefused (.cxstart delayed date) s hd] at he
    cases he
    cases hr

/-! ## The plan -/

theorem toInt_add_ofNat_sub {n : Nat} (hn : n < 2 ^ 31) (now : Word32) : (now + BitVec.ofNat 32 n - now).toInt = n := by
  rw [add_sub_cancel_left, BitVec.toInt_ofNat']
  exact Int.bmod_eq_of_le (by omega) (by omega)

theorem microseconds_nonpos (p : Params) {d : Int} (hd : d ≤ 0) : microseconds p d ≤ 0 := by
  have h : 0 ≤ Int.tdiv (-d * p.dtuPerUsDen) p.dtuPerUsNum :=
    Int.tdiv_nonneg (mul_nonneg (neg_nonneg.2 hd) (Int.natCast_nonneg _)) (Int.natCast_nonneg _)
  rwa [Int.neg_mul, Int.neg_tdiv, neg_nonneg] at h

/-- The wait of a delayed start is R205's, in every case. -/
theorem coexPlan_delayed_wait (p : Params) (date now : Word32) :
    ((coexPlan p true date now).2 : Int) = max 0 (microseconds p (date - now).toInt - total p) := by
  simp only [coexPlan, if_true, dtuToUs_eq_microseconds, dtuDiff, show total p = coexTotal p from rfl, Int.ofNat_eq_natCast]
  split <;> omega

end Sys2Proof.Machine

open Sys2Proof Sys2Proof.Machine Sys2Proof.Spec

/-- Settles O53: the outputs are the plan's. Not delayed, the date is `us_to_dtu(T)` after now, which R7 keeps from 1 to
below 2^31, so that the signed distance is that number; delayed, the wait is the maximum of R205, and truncation toward
zero makes it 0 for a date that is not ahead. -/
theorem cxstartLaws : Obligations.CxstartLaws := by
  intro s p delayed date now t c d out wait hok hpin hnow he hr
  obtain ⟨rfl, hplan⟩ := exec_cxstart_schedule_inv hpin hnow he hr
  refine ⟨rfl, ?_, ?_⟩
  · rintro rfl
    obtain ⟨-, -, -, -, -, hlo, hhi, -⟩ := hok
    obtain ⟨rfl, rfl⟩ := Prod.mk.inj hplan
    rw [toInt_add_ofNat_sub (by omega)]
    exact ⟨rfl, rfl, by omega, by omega⟩
  · rintro rfl
    have hwait := coexPlan_delayed_wait s.params (BitVec.ofNat 32 date) now
    rw [← hplan] at hwait
    obtain rfl : out = BitVec.ofNat 32 date := congrArg Prod.fst hplan
    refine ⟨rfl, fun hpast => ?_, hwait⟩
    have := microseconds_nonpos s.params hpast
    omega

/-- Settles O51: both passthroughs are replies and nothing else. -/
theorem noPinIsAPassthrough : Obligations.NoPinIsAPassthrough := fun _ hpin =>
  ⟨fun delayed _ hd => exec_cxstart_noPin hpin delayed hd, exec_cxstop_noPin hpin⟩
end

section
/-! SUPPORT. The configuration commands (44_control R230 to R233): which fields of the record S each instruction can
write, and which calls a configuration command can make. -/

namespace Sys2Proof.Machine

open Sys2Proof.Spec

/-! ## One equation for SETCRC and for SETRATE -/

theorem exec_setcrc (on : Bool) (s : State) : exec (.setcrc on) s = answered (s.setCrcMode on) .none := rfl

theorem exec_setrate (rate : SpiRate) (s : State) : exec (.setrate rate) s = answered (s.setRate rate) .none := rfl

/-! ## What each shared operation writes in the record -/

@[simp] theorem State.sendFrame_regs (s : State) (h b : List Byte) (crc : Bool) :
    (s.sendFrame h b crc).regs = s.regs := by
  obtain ⟨-, hs⟩ | ⟨-, hs⟩ := s.sendFrame_cases h b crc <;> simp [hs]

@[simp] theorem State.writeFrame_regs (s : State) (id : Nat) (sub : Option Nat) (mode : Nat) (body : List Nat) :
    (s.writeFrame id sub mode body).regs = s.regs := by
  obtain ⟨_, -, -, hw⟩ | ⟨_, _, -, hw⟩ := s.writeFrame_cases id sub mode body <;> simp [hw]

@[simp] theorem State.readFrame_regs (s : State) (id : Nat) (sub : Option Nat) (mode n : Nat) :
    (s.readFrame id sub mode n).regs = s.regs := by
  obtain ⟨_, -, -, hr⟩ | ⟨_, -, hr⟩ := s.readFrame_cases id sub mode n <;> simp [hr]

@[simp] theorem State.fastFrame_regs (s : State) (code : Nat) : (s.fastFrame code).regs = s.regs := by
  obtain ⟨-, hf⟩ | ⟨-, hf⟩ := s.fastFrame_cases code <;> simp [hf]

theorem State.driveActive_regs (s : State) (pin : Nat) (date : Word32) (wait : Nat) :
    ∃ phase, (s.driveActive pin date wait).regs = { s.regs with cxPhase := phase } := by
  obtain ⟨-, hd⟩ | ⟨-, -, hd⟩ := s.driveActive_cases pin date wait
  · exact ⟨.armed, by simp [hd]⟩
  · exact ⟨s.regs.cxPhase, by simp [hd]⟩

theorem State.arm_regs (s : State) (pin : Nat) (delayed : Bool) (date : Word32) :
    ∃ phase now, (s.arm pin delayed date).regs = { s.regs with cxPhase := phase, cxLastNow := now } := by
  obtain ⟨-, ha⟩ | ⟨now, -, ha⟩ := s.arm_cases pin delayed date
  · exact ⟨s.regs.cxPhase, s.regs.cxLastNow, by simp [ha]⟩
  · obtain ⟨phase, hd⟩ := (s.readTime.setLastNow now).driveActive_regs pin (coexPlan s.params delayed date now).1
      (coexPlan s.params delayed date now).2
    exact ⟨phase, some now, by simp [ha, hd]⟩

theorem State.release_regs (s : State) (pin : Nat) : (s.release pin).regs = { s.regs with cxPhase := .idle } := rfl

theorem State.configure_regs (s : State) (pin : Option Nat) (level : BitVec 1) :
    ∃ pin' level', (s.configure pin level).regs = { s.regs with cxPin := pin', cxActiveLevel := level' } := by
  obtain ⟨-, hc⟩ | ⟨p, -, -, hc⟩ | ⟨_, _, -, -, hc⟩ := s.configure_cases pin level
  · exact ⟨none, level, by simp [hc]⟩
  · exact ⟨some p, level, by simp [hc]⟩
  · exact ⟨s.regs.cxPin, s.regs.cxActiveLevel, by simp [hc]⟩

/-! ## What an instruction writes in the record -/

/-- Each of the four configuration fields is written by one command alone; every other instruction can change the
arbiter's phase and last device time and nothing more of the record. -/
theorem exec_regs {i : Instr} {s t : State} (h : exec i s = .next t) :
    (∃ phase now, t.regs = { s.regs with cxPhase := phase, cxLastNow := now }) ∨
    (∃ pin level, i = .cxcfg pin level ∧
      ∃ pin' level', t.regs = { s.regs with cxPin := pin', cxActiveLevel := level' }) ∨
    (∃ on, i = .setcrc on ∧ t.regs = { s.regs with crcWriteMode := on }) ∨
    (∃ rate, i = .setrate rate ∧ t.regs = { s.regs with spiRate := rate }) := by
  have kept : ∀ {u : State}, u.regs = s.regs →
      ∃ phase now, u.regs = { s.regs with cxPhase := phase, cxLastNow := now } := fun hu => ⟨_, _, hu⟩
  obtain ⟨r, rfl⟩ | ⟨id, sub, mode, body, -, rfl⟩ | ⟨id, sub, mode, n, -, rfl⟩ | ⟨code, -, rfl⟩ |
    ⟨pin, level, hi, -, -, rfl⟩ | ⟨p, delayed, date, -, -, -, rfl⟩ | ⟨p, -, -, rfl⟩ | ⟨on, hi, rfl⟩ |
    ⟨rate, hi, rfl⟩ := exec_cases h
  · exact .inl (kept (s.reply_regs r))
  · exact .inl (kept (s.writeFrame_regs id sub mode body))
  · exact .inl (kept (s.readFrame_regs id sub mode n))
  · exact .inl (kept (s.fastFrame_regs code))
  · exact .inr (.inl ⟨pin, level, hi, s.configure_regs pin (BitVec.ofNat 1 level)⟩)
  · exact .inl (s.arm_regs p delayed (BitVec.ofNat 32 date))
  · exact .inl ⟨.idle, s.regs.cxLastNow, s.release_regs p⟩
  · exact .inr (.inr (.inl ⟨on, hi, rfl⟩))
  · exact .inr (.inr (.inr ⟨rate, hi, rfl⟩))

/-! ## What CXCFG calls -/

/-- A CXCFG that completes was refused with a reply, or passed its checks and configured the pin. -/
theorem exec_cxcfg_cases {pin : Option Nat} {level : Nat} {s t : State} (h : exec (.cxcfg pin level) s = .next t) :
    (∃ r, t = s.reply r) ∨ (pinInRange s.params.npins pin = true ∧ s.regs.cxPhase = .idle ∧
      t = s.configure pin (BitVec.ofNat 1 level)) := by
  simpa [isTransaction] using exec_cases h

theorem spiCalls_append_gpioConfig (events : List Event) (mask : Word32) (ack : Ack) :
    spiCalls (events ++ [.gpioConfig mask ack]) = spiCalls events := by
  simp [spiCalls]

theorem State.configure_spiCalls (s : State) (pin : Option Nat) (level : BitVec 1) :
    spiCalls (s.configure pin level).events = spiCalls s.events := by
  obtain ⟨-, hc⟩ | ⟨p, -, -, hc⟩ | ⟨p, _, -, -, hc⟩ := s.configure_cases pin level
  · simp [hc]
  · simp [hc, spiCalls_append_gpioConfig]
  · simp [hc, spiCalls_append_gpioConfig]

theorem exec_cxcfg_spiCalls {pin : Option Nat} {level : Nat} {s t : State} (h : exec (.cxcfg pin level) s = .next t) :
    spiCalls t.events = spiCalls s.events := by
  obtain ⟨_, rfl⟩ | ⟨-, -, rfl⟩ := exec_cxcfg_cases h
  · rfl
  · exact s.configure_spiCalls pin _

end Sys2Proof.Machine

open Sys2Proof Sys2Proof.Machine Sys2Proof.Spec

/-- Settles O57: both commands are one write of the record and a reply. -/
theorem setcrcAndSetrateWriteTheirField : Obligations.SetcrcAndSetrateWriteTheirField := fun s on rate =>
  ⟨exec_setcrc on s, exec_setrate rate s⟩

/-- Settles O58: `exec_regs` names the writer of each field; CXCFG makes at most a GPIO call, the others none. -/
theorem onlyConfigurationCommandsConfigure : Obligations.OnlyConfigurationCommandsConfigure := by
  intro i s t h
  have hcxcfg : (∃ pin level, i = .cxcfg pin level) → spiCalls t.events = spiCalls s.events := by
    rintro ⟨pin, level, rfl⟩
    exact exec_cxcfg_spiCalls h
  have hset : (∃ on, i = .setcrc on) ∨ (∃ rate, i = .setrate rate) → t.events = s.events := by
    rintro (⟨on, rfl⟩ | ⟨rate, rfl⟩)
    · cases (exec_setcrc on s).symm.trans h
      rfl
    · cases (exec_setrate rate s).symm.trans h
      rfl
  obtain ⟨_, _, ht⟩ | ⟨pin, level, rfl, _, _, ht⟩ | ⟨on, rfl, ht⟩ | ⟨rate, rfl, ht⟩ := exec_regs h <;>
  · exact ⟨by simp [ht], by simp [ht], by simp [ht], hcxcfg, hset⟩
end

section
/-! SUPPORT. Reset (70_reset_and_hazards R280, R283): the step that a reset input makes. -/

namespace Sys2Proof.Machine

/-- A reset input takes the input off the list, selects its device and restarts it; it neither faults nor is refused. -/
theorem step_reset {s : State} {k : Nat} {rest : List HostInput} (h : s.inputs = .reset k :: rest) :
    step s = .next (s.consume.select k).restart := by
  rw [step, h]

end Sys2Proof.Machine

open Sys2Proof Sys2Proof.Machine

/-- Settles O1: a reset input ends in a restart, which writes the same record as `State.reset` holds; selecting the device
keeps the tables. -/
theorem resetGivesEveryFieldItsValue : Obligations.ResetGivesEveryFieldItsValue := by
  refine ⟨⟨rfl, rfl, rfl, rfl, rfl, rfl⟩, fun s k rest h => ⟨(s.consume.select k).restart, step_reset h, ?_, ?_⟩⟩
  · exact State.restart_regs _
  · rw [State.restart_tables, State.select_tables, State.consume_tables]
end

section
/-! SUPPORT. Host words (30_encoding Parts A and B): the decoder and the encoder are inverse on what each accepts, and bit 6
of byte 0 tells the header length (R75). -/

namespace Sys2Proof

open Sys2Proof.Machine Sys2Proof.Spec

/-! ## Encoding, then decoding -/

theorem subPresent_iff (sub : Option Nat) : subPresent sub = true ↔ ∃ x, sub = some x ∧ x ≤ 127 := by
  cases sub <;> simp [subPresent]

theorem hdr_length (id : Nat) (sub : Option Nat) (m : Mode) :
    (hdr id sub m).length = if codeOfMode m ≤ 2 then 1 else 2 := by
  rw [hdr, encodeHeader_length, headerLength_eq]

/-- The decoder splits an encoded transaction where the encoder put it together; what is left to check is the branch of
the mode. -/
theorem decode_encodeTransaction {m : Mode} {id : Nat} {sub : Option Nat} {body : List Nat} {readLen : Option Nat}
    {i : Instr} (hid : id ≤ 31) (hsub : SubLegal sub) (hm : subMatches m sub = true) (hb : areBytes body = true)
    (hi : ∀ bytes hlen, decodeHeader bytes = .ok ⟨id, sub, m, hlen⟩ → ofBytes (bytes.drop hlen) = body →
      decodeTransaction bytes readLen = .ok i) :
    decode (encodeTransaction m id sub body readLen) = .ok i := by
  refine hi (hdr id sub m ++ toBytes body) _ (decodeHeader_hdr hid hsub hm (toBytes body)) ?_
  rw [← hdr_length id sub m, List.drop_left, ofBytes_toBytes hb]

/-! ## Decoding, then encoding -/

/-- A command word has one opcode and one list of ports for its instruction. -/
theorem encode_of_decodeCommand {opcode : Nat} {ports : List Port} {i : Instr}
    (h : decodeCommand opcode ports = .ok i) : encode i = .command (BitVec.ofNat 8 opcode) ports := by
  unfold decodeCommand at h
  split at h
  case h_22 => cases h
  all_goals
    split at h
    · cases h
      rfl
    · cases h

/-- A transaction's bytes are the encoder's header and the body the decoder read. -/
theorem encodeHeader_append_body {bytes : List Byte} {h : Header} (hd : decodeHeader bytes = .ok h) :
    encodeHeader h.mode h.id (h.sub.getD 0) ++ toBytes (ofBytes (bytes.drop h.hlen)) = bytes := by
  obtain ⟨-, -, -, -, -, htake⟩ := decodeHeader_ok hd
  rw [toBytes_ofBytes, ← htake, List.take_append_drop]

theorem bodyOnly_ok {m : Mode} {readLen : Option Nat} {i j : Instr} (h : bodyOnly m readLen i = .ok j) :
    readLen = none ∧ i = j := by
  cases readLen with
  | none => exact ⟨rfl, Except.ok.inj h⟩
  | some _ => cases h

theorem encode_of_decodeTransaction {bytes : List Byte} {readLen : Option Nat} {i : Instr}
    (h : decodeTransaction bytes readLen = .ok i) : encode i = .transaction bytes readLen := by
  unfold decodeTransaction at h
  split at h
  · cases h
  · cases h
  next hd hdec =>
    have hbytes := encodeHeader_append_body hdec
    obtain ⟨id, sub, m, hlen⟩ := hd
    cases m <;> simp only at h hbytes
    case fc | sr | fr =>
      split at h
      next hbody =>
        cases h
        rw [hbody] at hbytes
        exact congrArg (HostWord.transaction · _) hbytes
      · cases h
    case sw | fw | mw8 | mw16 | mw32 =>
      obtain ⟨rfl, rfl⟩ := bodyOnly_ok h
      exact congrArg (HostWord.transaction · none) hbytes

/-! ## The header length -/

theorem decodeH1_hlen {b0 : Nat} {h : Header} (hd : decodeH1 b0 = .ok h) : h.hlen = 1 := by
  unfold decodeH1 at hd
  split_ifs at hd <;> cases hd <;> rfl

theorem decodeH2_hlen {b0 b1 : Nat} {h : Header} (hd : decodeH2 b0 b1 = .ok h) : h.hlen = 2 := by
  unfold decodeH2 at hd
  split_ifs at hd <;> cases hd <;> rfl

end Sys2Proof

open Sys2Proof Sys2Proof.Machine Sys2Proof.Spec

/-- Settles O15: a command's ports are read in the order they were written, by computation; a transaction is split behind
the header that the encoder wrote. -/
theorem decodeOfEncodeIsTheInstruction : Obligations.DecodeOfEncodeIsTheInstruction := by
  intro i hwf
  have noSub : SubLegal none := by simp [SubLegal]
  cases i <;> simp only [Instr.wf, Bool.and_eq_true, idInRange, decide_eq_true_eq, subPresent_iff] at hwf
  case fastCommand | shortRead =>
    exact decode_encodeTransaction hwf noSub rfl rfl fun _ _ hd hbody => by simp only [decodeTransaction, hd, hbody]
  case shortWrite =>
    obtain ⟨hid, hb⟩ := hwf
    exact decode_encodeTransaction hid noSub rfl hb fun _ _ hd hbody => by
      simp only [decodeTransaction, hd, hbody, bodyOnly]
  case fullRead =>
    obtain ⟨hid, x, rfl, hx⟩ := hwf
    exact decode_encodeTransaction hid (by simpa [SubLegal] using hx) rfl rfl fun _ _ hd hbody => by
      simp only [decodeTransaction, hd, hbody]
  case fullWrite | maskedWrite8 | maskedWrite16 | maskedWrite32 =>
    obtain ⟨⟨hid, x, rfl, hx⟩, hb⟩ := hwf
    exact decode_encodeTransaction hid (by simpa [SubLegal] using hx) rfl hb fun _ _ hd hbody => by
      simp only [decodeTransaction, hd, hbody, bodyOnly]
  all_goals rfl

/-- Settles O16: each branch of the decoder that answers an instruction has matched the whole word the encoder writes. -/
theorem decodedWordsAreEncodings : Obligations.DecodedWordsAreEncodings := by
  intro w i h
  cases w with
  | command opcode ports =>
    rw [encode_of_decodeCommand h, BitVec.ofNat_toNat, BitVec.setWidth_eq]
  | transaction bytes readLen => exact encode_of_decodeTransaction h

/-- Settles O18: bit 6 of byte 0 selects the format, and each format has one length. -/
theorem headerLengthFollowsBit6 : Obligations.HeaderLengthFollowsBit6 := by
  intro b0 rest h hd
  obtain ⟨-, -, -, -, hle, -⟩ := decodeHeader_ok hd
  refine ⟨?_, hle⟩
  obtain h6 | h6 := Nat.mod_two_eq_zero_or_one (b0.toNat / 64)
  · rw [decodeHeader_short h6] at hd
    rw [decodeH1_hlen hd, h6]
  · cases rest with
    | nil =>
      rw [← toBytes_ofBytes [b0]] at hd
      cases (decodeHeader_lone_byte (Nat.le_of_lt_succ b0.isLt) h6).symm.trans hd
    | cons b1 rest =>
      rw [decodeHeader_long h6] at hd
      rw [decodeH2_hlen hd, h6]

/-- Settles O20: nine words, each by computation. -/
theorem specWordsDecode : Obligations.SpecWordsDecode := by
  unfold Obligations.SpecWordsDecode
  decide
end

section
/-! SUPPORT. FCMD, the wire transactions and MODIFY (40_transport_codec R100 to R107, R117; 30_encoding R84): each is a
frame or a read of its issuing command, with the header as a number. -/

namespace Sys2Proof.Machine

open Sys2Proof.Spec

theorem exec_fcmd {code : Nat} (h : code ≤ 31) (s : State) :
    exec (.fcmd code) s = .next (sent s (shortHeader 1 code 1) [] (s.regs.crcWriteMode && s.params.fastcmdCrc)) := by
  obtain ⟨hlt, -⟩ | ⟨-, hf⟩ := s.fastFrame_cases code
  · exact absurd h (Nat.not_le.2 hlt)
  · rw [← headerH1_eq_shortHeader, ← State.sendFrame_eq_sent]
    exact congrArg Host.Outcome.next hf

theorem subLegal_some {x : Nat} (h : x ≤ 127) : SubLegal (some x) := by simpa [SubLegal] using h

/-- A write in a legal shape is one frame with the header of its mode. -/
theorem exec_wframe_sent {mode id : Nat} {sub : Option Nat} {body : List Nat} {s : State} {h : List Byte} (hid : id ≤ 31)
    (hb : AreBytes body) (hmode : mode ≠ 0) (hh : WriteHeader mode id sub h)
    (hl : BodyLegal s.params.maxBody mode body.length) :
    exec (.wframe id sub mode body) s = .next (sent s h (toBytes body) s.regs.crcWriteMode) := by
  have hrange : mode ≤ 7 ∧ SubLegal sub := by
    obtain ⟨rfl, -⟩ | ⟨rfl, rfl, -⟩ | ⟨x, -, hm, rfl, hx, -⟩ := hh
    · exact absurd rfl hmode
    · exact ⟨by decide, by simp [SubLegal]⟩
    · exact ⟨hm, subLegal_some hx⟩
  obtain ⟨hm, hsub⟩ := hrange
  obtain ⟨-, hchecked⟩ := wframeSendsOneFrame id sub mode body s
  obtain ⟨-, -, -, hframe⟩ := hchecked hid hm hsub hb
  exact (hframe h hmode hh).2 hl

/-- The writes with a two-byte header: modes FW, MW8, MW16 and MW32 by their field M. -/
theorem exec_wframe_long {id x : Nat} {body : List Nat} {s : State} (m : Nat) (hm : m ≤ 3) (hid : id ≤ 31) (hx : x ≤ 127)
    (hb : AreBytes body) (hl : BodyLegal s.params.maxBody (m + 4) body.length) :
    exec (.wframe id (some x) (m + 4) body) s =
      .next (sent s (longHeader 1 id x m) (toBytes body) s.regs.crcWriteMode) :=
  exec_wframe_sent hid hb (by omega) (.inr (.inr ⟨x, by omega, by omega, rfl, hx, rfl⟩)) hl

theorem bodyLegal_masked {maxBody n : Nat} (m : Nat) (hm : 1 ≤ m) (hn : n = 2 ^ m) : BodyLegal maxBody (m + 4) n :=
  ⟨fun h => by omega, fun h => by omega, fun _ => hn⟩

/-! ## The masks of MODIFY -/

theorem areBytes_maskBody (w a o : Nat) : AreBytes (maskBody w a o) := (areBytes_iff _).1 (areBytes_ofBytes _)

theorem toBytes_maskBody (w a o : Nat) : toBytes (maskBody w a o) = packLe a w ++ packLe o w := toBytes_ofBytes _

/-- A masked write of both masks, for every width of 2^k bytes. -/
theorem exec_wframe_masks {id x : Nat} (k a o : Nat) (s : State) (hk : k ≤ 2) (hid : id ≤ 31) (hx : x ≤ 127) :
    exec (.wframe id (some x) (k + 1 + 4) (maskBody (2 ^ k) a o)) s =
      .next (sent s (longHeader 1 id x (k + 1)) (packLe a (2 ^ k) ++ packLe o (2 ^ k)) s.regs.crcWriteMode) := by
  rw [← toBytes_maskBody]
  refine exec_wframe_long (k + 1) (by omega) hid hx (areBytes_maskBody _ a o) (bodyLegal_masked (k + 1) (by omega) ?_)
  rw [maskBody, ofBytes_length, List.length_append, packLe_length, packLe_length, pow_succ, mul_two]

theorem packLe_zero (v : Nat) : packLe v 0 = [] := rfl

/-- A byte of a word drops the higher bits by itself. -/
theorem ofNat_byte_mod (v : Nat) : BitVec.ofNat 8 (v % 256) = BitVec.ofNat 8 v :=
  BitVec.eq_of_toNat_eq (by simp)

end Sys2Proof.Machine

open Sys2Proof Sys2Proof.Machine Sys2Proof.Spec

/-- Settles O29: a code out of range is refused by O14, any other is one header byte. -/
theorem fcmdSendsOneByte : Obligations.FcmdSendsOneByte := fun code s =>
  ⟨fun h => operandsOutOfRangeAreRefused (.fcmd code) s (Nat.not_le.2 h), fun h => exec_fcmd h s⟩

/-- Settles O30: each arm of a transaction is the arm of its command. -/
theorem transactionsAreTheirCommands : Obligations.TransactionsAreTheirCommands :=
  fun _ _ _ _ _ => ⟨rfl, rfl, rfl, rfl, rfl, rfl, rfl, rfl⟩

/-- Settles O31: each write transaction is its command, FCMD or WFRAME, in a legal shape. -/
theorem writeTransactionsComplete : Obligations.WriteTransactionsComplete := by
  intro id x body s hid hx hb
  refine ⟨exec_fcmd hid s, fun hlow hhigh => ⟨?_, ?_⟩, fun hl => ?_, fun hl => ?_, fun hl => ?_⟩
  · exact exec_wframe_sent hid hb (by decide) (.inr (.inl ⟨rfl, rfl, rfl⟩)) ⟨by omega, fun _ => ⟨hlow, hhigh⟩, by omega⟩
  · exact exec_wframe_long 0 (by decide) hid hx hb ⟨by omega, fun _ => ⟨hlow, hhigh⟩, by omega⟩
  · exact exec_wframe_long 1 (by decide) hid hx hb (bodyLegal_masked 1 (by decide) hl)
  · exact exec_wframe_long 2 (by decide) hid hx hb (bodyLegal_masked 2 (by decide) hl)
  · exact exec_wframe_long 3 (by decide) hid hx hb (bodyLegal_masked 3 (by decide) hl)

/-- Settles O32: both reads are RFRAME in their modes, whose checks pass. -/
theorem readTransactionsComplete : Obligations.ReadTransactionsComplete := by
  intro id x n s hid hx hlow hhigh
  obtain ⟨-, hshort⟩ := rframeReadsExactly id none 1 n s
  obtain ⟨-, hfull⟩ := rframeReadsExactly id (some x) 3 n s
  obtain ⟨-, -, -, hsr, -⟩ := hshort hid (by decide) (by simp [SubLegal])
  obtain ⟨-, -, -, -, hfr⟩ := hfull hid (by decide) (subLegal_some hx)
  have hbyte : shortHeader 0 id 0 = [BitVec.ofNat 8 (2 * id)] := by simp [shortHeader]
  exact ⟨hbyte ▸ (hsr rfl rfl).2 hlow hhigh, (hfr x rfl rfl).2 hlow hhigh⟩

/-- Settles O34: the body of the masked write is both masks in base 256, lowest digit first. -/
theorem modifySendsBothMasks : Obligations.ModifySendsBothMasks := by
  intro id x a o s hid hx
  refine ⟨fun _ _ => exec_wframe_masks 0 a o s (by decide) hid hx, fun _ _ => ?_, fun _ _ => ?_⟩
  · refine (exec_wframe_masks 1 a o s (by decide) hid hx).trans ?_
    simp [packLe_succ, packLe_zero, ofNat_byte_mod]
  · refine (exec_wframe_masks 2 a o s (by decide) hid hx).trans ?_
    simp [packLe_succ, packLe_zero, ofNat_byte_mod, Nat.div_div_eq_div_mul]
end

section
/-! SUPPORT. The frames CHKW accepts (40_transport_codec R118): their form, and that none is one bit away from another. -/

namespace Sys2Proof.Machine

open Sys2Proof.Spec

/-! ## The form of an accepted frame -/

theorem subPresent_of_subMatches {m : Mode} {sub : Option Nat} (hm : subMatches m sub = true) (hlong : 3 ≤ codeOfMode m) :
    ∃ x, sub = some x :=
  Option.ne_none_iff_exists'.1 ((subMatches_iff m sub).1 hm |>.1 hlong)

/-- The header the model writes for a mode that is no read is the write header of R74. -/
theorem writeHeader_hdr {m : Mode} {id : Nat} {sub : Option Nat} (hread : isReadMode m = false)
    (hm : subMatches m sub = true) (hsub : SubLegal sub) : WriteHeader (codeOfMode m) id sub (hdr id sub m) := by
  cases m
  case sr | fr => cases hread
  case fc =>
    cases sub with
    | none => exact .inl ⟨rfl, rfl, headerH1_eq_shortHeader 1 id 1⟩
    | some _ => cases hm
  case sw =>
    cases sub with
    | none => exact .inr (.inl ⟨rfl, rfl, headerH1_eq_shortHeader 1 id 0⟩)
    | some _ => cases hm
  case fw | mw8 | mw16 | mw32 =>
    obtain ⟨x, rfl⟩ := subPresent_of_subMatches hm (by decide)
    exact .inr (.inr ⟨x, by decide, by decide, rfl, hsub x rfl, headerBytes_headerH2 1 id x _⟩)

theorem subLegal_of_writeHeader {mode id : Nat} {sub : Option Nat} {h : List Byte} (hh : WriteHeader mode id sub h) :
    SubLegal sub := by
  obtain ⟨-, rfl, -⟩ | ⟨-, rfl, -⟩ | ⟨x, -, -, rfl, hx, -⟩ := hh
  · simp [SubLegal]
  · simp [SubLegal]
  · exact subLegal_some hx

/-- What makes a frame good: a write header, a body of legal length and the CRC byte that is expected (R118). -/
def GoodFrame (frame : List Byte) (crc : Bool) (s : State) (id : Nat) (sub : Option Nat) (m : Mode) (body : List Byte) :
    Prop :=
  ∃ h, id ≤ 31 ∧ WriteHeader (codeOfMode m) id sub h ∧ BodyLegal s.params.maxBody (codeOfMode m) body.length ∧
    frame = h ++ body ++ crcTail crc s m (h ++ body)

/-- Behind a write header, what the decoder left of `bytes` is the body of a good frame. -/
theorem goodFrame_of_header {bytes tail : List Byte} {crc : Bool} {s : State} {id hlen : Nat} {sub : Option Nat} {m : Mode}
    (hd : decodeHeader (bytes ++ tail) = .ok ⟨id, sub, m, hlen⟩) (hread : isReadMode m = false) (hle : hlen ≤ bytes.length)
    (hl : BodyLegal s.params.maxBody (codeOfMode m) (bytes.length - hlen)) (htail : tail = crcTail crc s m bytes) :
    GoodFrame (bytes ++ tail) crc s id sub m (bytes.drop hlen) := by
  obtain ⟨hid, hlong, hsub, -, -, htake⟩ := decodeHeader_ok hd
  have hm : subMatches m sub = true := by simp [subMatches, hlong]
  have hhead : bytes.take hlen = hdr id sub m := (List.take_append_of_le_length hle).symm.trans htake
  refine ⟨hdr id sub m, hid, writeHeader_hdr hread hm hsub, by rwa [List.length_drop], ?_⟩
  rw [← hhead, List.take_append_drop, htail]

/-- CHKW returns an error, or accepts a good frame with its fields and body. -/
theorem exec_chkw_cases (frame : List Byte) (crc : Bool) (s : State) :
    (∃ c, c ≠ .ok ∧ exec (.chkw (ofBytes frame) crc) s = failed s c) ∨
    (∃ id sub m body, exec (.chkw (ofBytes frame) crc) s = answered s (.received id sub m body) ∧
      GoodFrame frame crc s id sub m body) := by
  cases hd : decodeHeader frame with
  | error e => exact .inl ⟨headerCode e, headerCode_ne_ok e, exec_chkw_of_error hd⟩
  | ok h =>
    obtain ⟨id, sub, m, hlen⟩ := h
    obtain ⟨-, -, -, -, hle, -⟩ := decodeHeader_ok hd
    cases hread : isReadMode m with
    | true => exact .inl ⟨.mode, by decide, exec_chkw_of_read hd hread⟩
    | false =>
      by_cases hc : CrcExpected crc s m
      · rw [exec_chkw_of_crc hd hread hc]
        by_cases hshort : frame.length < hlen + 1
        · exact .inl ⟨.length, by decide, by rw [checkBody_tooShort hshort]; rfl⟩
        obtain rfl | ⟨pre, c, rfl⟩ := List.eq_nil_or_concat' frame
        · cases hd
        rw [List.length_append, List.length_singleton] at hshort
        have hpre : hlen ≤ pre.length := by omega
        obtain ⟨hbad, hgood⟩ := checkBody_crc (maxBody := s.params.maxBody) (c := c) (h := ⟨id, sub, m, hlen⟩) hpre hread
        by_cases hcrc : crc8 pre 0#8 = c
        · by_cases hl : BodyLegal s.params.maxBody (codeOfMode m) (pre.length - hlen)
          · refine .inr ⟨id, sub, m, pre.drop hlen, by rw [(hgood hcrc).2 hl]; rfl, ?_⟩
            exact goodFrame_of_header hd hread hpre hl (by rw [crcTail_of_expected hc, hcrc])
          · exact .inl ⟨.length, by decide, by rw [(hgood hcrc).1 hl]; rfl⟩
        · exact .inl ⟨.crcMismatch, by decide, by rw [hbad hcrc]; rfl⟩
      · rw [exec_chkw_of_plain hd hread hc]
        obtain ⟨hbad, hgood⟩ := checkBody_plain (maxBody := s.params.maxBody) (h := ⟨id, sub, m, hlen⟩) hle hread
        by_cases hl : BodyLegal s.params.maxBody (codeOfMode m) (frame.length - hlen)
        · refine .inr ⟨id, sub, m, frame.drop hlen, by rw [hgood hl]; rfl, ?_⟩
          rw [← List.append_nil frame] at hd
          simpa using goodFrame_of_header hd hread hle hl (crcTail_of_not_expected hc frame).symm
        · exact .inl ⟨.length, by decide, by rw [hbad hl]; rfl⟩

theorem goodFrame_of_accepted {frame : List Byte} {crc : Bool} {s : State} {id : Nat} {sub : Option Nat} {m : Mode}
    {body : List Byte} (h : exec (.chkw (ofBytes frame) crc) s = answered s (.received id sub m body)) :
    GoodFrame frame crc s id sub m body := by
  obtain ⟨c, hc, hf⟩ | ⟨id', sub', m', body', ha, hgood⟩ := exec_chkw_cases frame crc s
  · exact absurd (h.symm.trans hf) (answered_ne_failed s _ hc)
  · cases answered_inj (ha.symm.trans h)
    exact hgood

/-! ## One changed bit -/

/-- The remainder over a frame and its CRC byte is zero. -/
theorem crc8_append_crc (bytes : List Byte) (i : Byte) : crc8 (bytes ++ [crc8 bytes i]) i = 0#8 := by
  rw [crc8_append, crc8_cons, BitVec.xor_self, crcT_eq_crcRemainder]
  rfl

theorem crc8_of_goodFrame {frame body : List Byte} {s : State} {id : Nat} {sub : Option Nat} {m : Mode}
    (h : GoodFrame frame true s id sub m body) (hc : CrcExpected true s m) : crc8 frame 0#8 = 0#8 := by
  obtain ⟨hd, -, -, -, rfl⟩ := h
  rw [crcTail_of_expected hc, crc8_append_crc]

theorem length_pos_of_writeHeader {mode id : Nat} {sub : Option Nat} {h : List Byte} (hh : WriteHeader mode id sub h) :
    1 ≤ h.length ∧ (mode = 0 → h.length = 1) := by
  obtain ⟨-, -, rfl⟩ | ⟨-, -, rfl⟩ | ⟨x, hm, -, -, -, rfl⟩ := hh
  · exact ⟨le_rfl, fun _ => rfl⟩
  · exact ⟨le_rfl, fun _ => rfl⟩
  · exact ⟨Nat.le_succ 1, fun h0 => by omega⟩

/-- A frame with a CRC byte is longer than a fast command without one. -/
theorem length_of_goodFrame {frame body : List Byte} {crc : Bool} {s : State} {id : Nat} {sub : Option Nat} {m : Mode}
    (h : GoodFrame frame crc s id sub m body) :
    (CrcExpected crc s m → 2 ≤ frame.length) ∧ (m = .fc → ¬CrcExpected crc s m → frame.length = 1) := by
  obtain ⟨hd, -, hh, ⟨hfc, -⟩, rfl⟩ := h
  obtain ⟨hpos, hone⟩ := length_pos_of_writeHeader hh
  refine ⟨fun hc => ?_, ?_⟩
  · simp only [crcTail_of_expected hc, List.length_append, List.length_singleton]
    omega
  · rintro rfl hc
    simp only [crcTail_of_not_expected hc, List.length_append, List.length_nil, hone rfl, hfc rfl]

end Sys2Proof.Machine

open Sys2Proof Sys2Proof.Machine Sys2Proof.Spec

/-- Settles O35: `exec_chkw_frame` accepts every good frame, and `exec_chkw_cases` no other. -/
theorem chkwAcceptsExactlyTheGoodFrames : Obligations.ChkwAcceptsExactlyTheGoodFrames := by
  refine ⟨fun crc s id sub m h body hid hh hl => ?_, fun frame crc s id sub m body h => goodFrame_of_accepted h⟩
  obtain ⟨hread, hm, rfl⟩ := hdr_of_writeHeader hh
  exact exec_chkw_frame crc hid (subLegal_of_writeHeader hh) hm hread hl

/-- Settles O38: a good frame with its CRC byte has remainder 0, and the frame with one bit changed has another (O26). Where
the changed header expects no CRC byte it is a fast command, and the frame is too long for one. -/
theorem chkwRejectsEverySingleBitError : Obligations.ChkwRejectsEverySingleBitError := by
  intro frame s id sub m body k j b h hc hk hj
  have hgood := goodFrame_of_accepted h
  have hexp : CrcExpected true s m := ⟨rfl, hc⟩
  obtain hfailed | ⟨id', sub', m', body', -, hgood'⟩ := exec_chkw_cases (frame.set k (b ^^^ (1#8 <<< j))) true s
  · exact hfailed
  exfalso
  by_cases hexp' : CrcExpected true s m'
  · refine crcSeesEverySingleBit frame k j b 0#8 hk hj ?_
    rw [crc8_of_goodFrame hgood hexp, crc8_of_goodFrame hgood' hexp']
  · have hfc : m' = .fc := by
      by_contra hne
      exact hexp' ⟨rfl, .inl hne⟩
    have hlong := (length_of_goodFrame hgood).1 hexp
    have hone := (length_of_goodFrame hgood').2 hfc hexp'
    rw [List.length_set] at hone
    omega
end

section
/-! SUPPORT. PBOOST's rounding (42_timing_budget R171, R173). -/

namespace Sys2Proof.Machine

/-- `q(x, s)` is the nearest multiple, an exact half going up: s·q - s/2 ≤ x < s·q + s/2, here doubled. -/
theorem nearestIndex_spec (x : Nat) {w : Nat} (hw : 0 < w) :
    2 * (w * nearestIndex x w) ≤ 2 * x + w ∧ 2 * x < 2 * (w * nearestIndex x w) + w := by
  have hdiv := Nat.div_add_mod (2 * x + w) (2 * w)
  have hmod := Nat.mod_lt (2 * x + w) (show 0 < 2 * w by omega)
  rw [mul_assoc] at hdiv
  unfold nearestIndex
  omega

end Sys2Proof.Machine

open Sys2Proof Sys2Proof.Machine Sys2Proof.Spec

/-- Settles O43: the index is `nearestIndex`, in both regions. -/
theorem pboostTakesTheNearestEntry : Obligations.PboostTakesTheNearestEntry := by
  refine fun d s => ⟨fun h h' => ?_, fun h h' => ?_⟩
  · refine ⟨_, nearestIndex_lut1_le h, ?_, nearestIndex_spec (1000 - d) (by decide)⟩
    rw [exec_pboost (by omega), powerBoost_lut1 h h']
    rfl
  · refine ⟨_, nearestIndex_lut2_le h, ?_, nearestIndex_spec (200 - d) (by decide)⟩
    rw [exec_pboost (by omega), powerBoost_lut2 h h']
    rfl
end

section
/-! SUPPORT. The arbiter's commands whole (43_coex_arbiter R202 to R206, 44_control R230): what CXSTART, CXSTOP and CXCFG
leave, their events, and the pins bit by bit. -/

namespace Sys2Proof.Machine

open Sys2Proof.Spec

/-! ## Pins -/

/-- A masked write under a pin's mask drives that pin alone, to the value's bit. -/
theorem pinDriven_maskedBits {p : Nat} {value : Word32} {level : Bool} (old : Word32)
    (hbit : p < 32 → value.getLsbD p = level) : PinDriven (maskedBits old (pinMask p) value) old p level := by
  intro i hi
  rw [maskedBits_getLsbD _ _ _ _ hi, pinMask_getLsbD _ _ hi]
  by_cases hip : i = p
  · subst hip
    simpa using hbit hi
  · simp [hip]

theorem level_getLsbD_zero : ∀ level : BitVec 1, level.getLsbD 0 = decide (level = 1#1) := by decide

theorem inactive_eq_one_iff : ∀ level : BitVec 1, 1#1 - level = 1#1 ↔ level = 0#1 := by decide

theorem pinDriven_level (old : Word32) (p : Nat) (level : BitVec 1) :
    PinDriven (maskedBits old (pinMask p) (pinValue p level)) old p (level = 1#1) :=
  pinDriven_maskedBits old fun hp => by rw [pinValue_getLsbD p level hp, level_getLsbD_zero]

theorem pinDriven_output (old : Word32) (p : Nat) : PinDriven (maskedBits old (pinMask p) (pinMask p)) old p true :=
  pinDriven_maskedBits old fun hp => by simp [pinMask_getLsbD p p hp]

theorem otherPinsKept_of_pinDriven {new old : Word32} {p : Nat} {level : Bool} (h : PinDriven new old p level) :
    OtherPinsKept new old p := fun i hi hip => by rw [h i hi, if_neg hip]

/-! ## CXSTART after its plan -/

theorem State.sleepFor_events_append (s : State) (us : Nat) :
    (s.sleepFor us).events = s.events ++ if us = 0 then [] else [.sleep us] := by
  rw [State.sleepFor_events]
  split
  · exact (List.append_nil _).symm
  · rfl

section
variable (s : State) (pin : Nat) (date : Word32) (wait : Nat)

theorem State.driveActive_keeps : ArbiterKeeps s (s.driveActive pin date wait) := by
  obtain ⟨-, hd⟩ | ⟨_, -, hd⟩ := s.driveActive_cases pin date wait <;> simp [hd, ArbiterKeeps]

theorem State.driveActive_gpioDir : (s.driveActive pin date wait).gpioDir = s.gpioDir := by
  obtain ⟨-, hd⟩ | ⟨_, -, hd⟩ := s.driveActive_cases pin date wait <;> simp [hd]

theorem State.driveActive_events :
    (s.driveActive pin date wait).events = s.events ++ (if wait = 0 then [] else [.sleep wait]) ++
      [.gpioSet (pinMask pin) (pinValue pin s.regs.cxActiveLevel) (ackOfGpio s.gpioAck)] := by
  obtain ⟨-, hd⟩ | ⟨_, -, hd⟩ := s.driveActive_cases pin date wait <;> simp [hd, State.sleepFor_events_append]

theorem State.driveActive_of_ok (h : s.gpioAck = .ok) :
    (s.driveActive pin date wait).result = some ⟨.ok, .schedule true date wait⟩ ∧
      (s.driveActive pin date wait).regs = { s.regs with cxPhase := .armed } ∧
      PinDriven (s.driveActive pin date wait).gpio s.gpio pin (s.regs.cxActiveLevel = 1#1) := by
  obtain ⟨-, hd⟩ | ⟨_, hfail, -⟩ := s.driveActive_cases pin date wait
  · exact ⟨by simp [hd], by simp [hd], by simpa [hd, h, gpioAfter] using pinDriven_level s.gpio pin _⟩
  · cases h.symm.trans hfail

theorem State.driveActive_of_fail {leaves : Word32} (h : s.gpioAck = .fail leaves) :
    (s.driveActive pin date wait).result = some ⟨.hwReject, .schedule true date wait⟩ ∧
      (s.driveActive pin date wait).regs = s.regs ∧
      PinDriven (s.driveActive pin date wait).gpio s.gpio pin (leaves.getLsbD pin) := by
  obtain ⟨hok, -⟩ | ⟨_, -, hd⟩ := s.driveActive_cases pin date wait
  · cases h.symm.trans hok
  · exact ⟨by simp [hd], by simp [hd], by simpa [hd, h, gpioAfter] using pinDriven_maskedBits s.gpio fun _ => rfl⟩

end

theorem State.arm_keeps (s : State) (pin : Nat) (delayed : Bool) (date : Word32) :
    ArbiterKeeps s (s.arm pin delayed date) := by
  obtain ⟨-, ha⟩ | ⟨now, -, ha⟩ := s.arm_cases pin delayed date
  · simp [ha, ArbiterKeeps]
  · rw [ha]
    exact (s.readTime.setLastNow now).driveActive_keeps pin _ _

/-- The plan of R203 in the spec's terms. -/
theorem coexPlan_eq (p : Params) (delayed : Bool) (date : Nat) (now : Word32) :
    coexPlan p delayed (BitVec.ofNat 32 date) now = (startDate p delayed date now, startWait p delayed date now) := by
  cases delayed with
  | true =>
    have hwait := coexPlan_delayed_wait p (BitVec.ofNat 32 date) now
    refine Prod.ext rfl ?_
    simp only [startWait, if_true]
    omega
  | false =>
    refine Prod.ext (BitVec.eq_of_toNat_eq ?_) rfl
    simp [coexPlan, startDate, usToDtu, coexTotal, total]

/-! ## CXSTOP and CXCFG -/

section
variable (s : State) (pin : Nat)

theorem State.release_keeps : ArbiterKeeps s (s.release pin) := ⟨rfl, rfl, rfl, rfl, rfl, rfl, rfl⟩

theorem State.release_result : (s.release pin).result = some ⟨ackCode (ackOfGpio s.gpioAck), .none⟩ := rfl

theorem State.release_events : (s.release pin).events = s.events ++
    [.gpioSet (pinMask pin) (pinValue pin (1#1 - s.regs.cxActiveLevel)) (ackOfGpio s.gpioAck)] := rfl

theorem State.release_gpio : (s.release pin).gpio =
    gpioAfter s.gpio (pinMask pin) (pinValue pin (1#1 - s.regs.cxActiveLevel)) s.gpioAck := rfl

end

theorem exec_cxstop_pin {s : State} {pin : Nat} (hpin : s.regs.cxPin = some pin) :
    exec .cxstop s = .next (s.release pin) := by
  simp only [exec, execCxstop, hpin]

theorem State.configure_keeps (s : State) (pin : Option Nat) (level : BitVec 1) :
    ArbiterKeeps s (s.configure pin level) := by
  obtain ⟨-, hc⟩ | ⟨_, -, -, hc⟩ | ⟨_, _, -, -, hc⟩ := s.configure_cases pin level <;> simp [hc, ArbiterKeeps]

theorem pinInRange_iff (npins : Nat) (pin : Option Nat) :
    pinInRange npins pin = true ↔ ∀ p, pin = some p → p < npins := by
  cases pin <;> simp [pinInRange]

theorem exec_cxcfg_outOfRange {s : State} {pin : Option Nat} {level : Nat}
    (h : ¬(pinInRange s.params.npins pin = true ∧ level ≤ 1)) : exec (.cxcfg pin level) s = failed s .argRange :=
  answer_of_refused_check (by simpa using h)

theorem exec_cxcfg_inRange {s : State} {pin : Option Nat} {level : Nat} (hpin : pinInRange s.params.npins pin = true)
    (hl : level ≤ 1) :
    exec (.cxcfg pin level) s = if s.regs.cxPhase = .armed then .fault .configWhileArmed
      else .next (s.configure pin (BitVec.ofNat 1 level)) := by
  simp only [exec, execCxcfg, hpin, hl, decide_true, Bool.and_self, Bool.not_true, Bool.false_eq_true, if_false]

theorem ne_armed_iff (p : Phase) : p ≠ .armed ↔ p = .idle := by cases p <;> decide

end Sys2Proof.Machine

open Sys2Proof Sys2Proof.Machine Sys2Proof.Spec

/-- Settles O52: CXSTART is `State.arm` once its checks have passed; with a device time read, `arm` is `driveActive` on the
plan of R203, which logs the sleep and the GPIO write and whose ending the GPIO outcome selects. -/
theorem cxstartRunsItsRule : Obligations.CxstartRunsItsRule := by
  refine ⟨fun s delayed date hpin hd => exec_cxstart_noPin hpin delayed hd, fun s p delayed date hpin hd => ?_⟩
  rw [exec_cxstart_pin hpin delayed hd]
  refine ⟨fun harmed => if_pos harmed, fun hidle hnone => ?_, fun now hidle hnow => ?_⟩ <;>
    rw [if_neg ((ne_armed_iff _).2 hidle)]
  · obtain ⟨-, ha⟩ | ⟨_, hsome, -⟩ := s.arm_cases p delayed (BitVec.ofNat 32 date)
    · exact ⟨_, rfl, by simp [ha], by simp [ha], by simp [ha], by simp [ha], by simp [ha, hnone], by simp [ha],
        s.arm_keeps p delayed _⟩
    · cases hnone.symm.trans hsome
  · obtain ⟨hnone, -⟩ | ⟨now', hnow', ha⟩ := s.arm_cases p delayed (BitVec.ofNat 32 date)
    · cases hnone.symm.trans hnow
    obtain rfl : now' = now := Option.some.inj (hnow'.symm.trans hnow)
    rw [coexPlan_eq] at ha
    refine ⟨_, rfl, ?_, s.arm_keeps p delayed _, ?_, fun hok => ?_, fun leaves hfail => ?_⟩ <;> rw [ha]
    · exact State.driveActive_gpioDir _ _ _ _
    · rw [State.driveActive_events, ← hnow]
      rfl
    · exact State.driveActive_of_ok _ _ _ _ hok
    · exact State.driveActive_of_fail _ _ _ _ hfail

/-- Settles O54: with a pin CXSTOP is one GPIO write of the inactive level and the phase set to Idle, and only the result,
the event and the pin's bit depend on the outcome. -/
theorem cxstopReleasesThePin : Obligations.CxstopReleasesThePin := by
  refine ⟨fun s hpin => exec_cxstop_noPin hpin, fun s p hpin => ?_⟩
  refine ⟨s.release p, exec_cxstop_pin hpin, s.release_regs p, rfl, s.release_keeps p, rfl, fun hok => ?_,
    fun leaves hfail => ?_⟩
  · rw [State.release_result, State.release_events, State.release_gpio, hok]
    exact ⟨rfl, rfl, by
      simpa [gpioAfter, inactive_eq_one_iff] using pinDriven_level s.gpio p (1#1 - s.regs.cxActiveLevel)⟩
  · rw [State.release_result, State.release_events, State.release_gpio, hfail]
    exact ⟨rfl, rfl, pinDriven_maskedBits s.gpio fun _ => rfl⟩

/-- Settles O56: the checks come in the order of R230, and then `configure_cases` gives the three endings. -/
theorem cxcfgConfiguresThePin : Obligations.CxcfgConfiguresThePin := by
  intro s pin level
  refine ⟨fun h => exec_cxcfg_outOfRange fun ⟨hpin, hl⟩ => ?_, fun hpin hl => ?_⟩
  · obtain ⟨p, rfl, hp⟩ | hl' := h
    · exact absurd ((pinInRange_iff _ _).1 hpin p rfl) (Nat.not_lt.2 hp)
    · omega
  rw [exec_cxcfg_inRange ((pinInRange_iff _ _).2 hpin) hl]
  refine ⟨fun harmed => if_pos harmed, fun hidle => ?_⟩
  rw [if_neg ((ne_armed_iff _).2 hidle)]
  refine ⟨by rintro rfl; rfl, ?_⟩
  rintro p rfl
  obtain ⟨h, -⟩ | ⟨_, ⟨⟩, hg, hc⟩ | ⟨_, _, ⟨⟩, hg, hc⟩ := s.configure_cases (some p) (BitVec.ofNat 1 level)
  · cases h
  · refine ⟨_, rfl, by simp [hc], s.configure_keeps _ _, by simp [hc], fun _ => ?_, fun leaves hfail => ?_⟩
    · exact ⟨by simp [hc], by simp [hc], by simp [hc, hg, ackOfGpio, pinMask],
        by simpa [hc, hg, gpioAfter] using pinDriven_output s.gpioDir p⟩
    · cases hg.symm.trans hfail
  · refine ⟨_, rfl, by simp [hc], s.configure_keeps _ _, by simp [hc], fun hok => ?_, fun leaves _ => ?_⟩
    · cases hg.symm.trans hok
    · exact ⟨by simp [hc], by simp [hc], by simp [hc, hg, ackOfGpio, pinMask],
        by simpa [hc, hg, gpioAfter] using
          otherPinsKept_of_pinDriven (pinDriven_maskedBits s.gpioDir fun _ => rfl)⟩
end

section
/-! SUPPORT. What a command that completes adds to H and what it leaves (20_memory R56, R57; 00_scope R12), and which
fields of the record S it writes. -/

namespace Sys2Proof.Machine

open Sys2Proof.Spec

/-! ## The footprint of a transaction -/

/-- What a transaction, or a plain reply, leaves: it makes at most one call, an SPI call, and gives a result. -/
structure TransactionLeaves (s t : State) : Prop where
  traces : OnlyTransactionTraces s t
  gpioAnswers : t.answers.gpio = s.answers.gpio
  timeAnswers : t.answers.time = s.answers.time
  events : t.events = s.events ∨ ∃ e, t.events = s.events ++ [e] ∧ spiCalls [e] = 1
  result : t.result ≠ none

theorem State.reply_leaves (s : State) (r : Result) : TransactionLeaves s (s.reply r) :=
  ⟨by simp [OnlyTransactionTraces], rfl, rfl, .inl rfl, by simp⟩

theorem State.sendFrame_leaves (s : State) (h b : List Byte) (crc : Bool) :
    TransactionLeaves s (s.sendFrame h b crc) := by
  obtain ⟨-, hs⟩ | ⟨-, hs⟩ := s.sendFrame_cases h b crc <;> rw [hs] <;>
    exact ⟨by simp [OnlyTransactionTraces], rfl, rfl, .inr ⟨_, rfl, rfl⟩, by simp⟩

theorem State.writeFrame_leaves (s : State) (id : Nat) (sub : Option Nat) (mode : Nat) (body : List Nat) :
    TransactionLeaves s (s.writeFrame id sub mode body) := by
  obtain ⟨_, -, -, hw⟩ | ⟨_, _, -, hw⟩ := s.writeFrame_cases id sub mode body <;> rw [hw]
  · exact s.reply_leaves _
  · exact s.sendFrame_leaves _ _ _

theorem State.readFrame_leaves (s : State) (id : Nat) (sub : Option Nat) (mode n : Nat) :
    TransactionLeaves s (s.readFrame id sub mode n) := by
  obtain ⟨_, -, -, hr⟩ | ⟨_, -, hr⟩ := s.readFrame_cases id sub mode n <;> rw [hr]
  · exact s.reply_leaves _
  · exact ⟨by simp [OnlyTransactionTraces], rfl, rfl, .inr ⟨_, rfl, rfl⟩, by simp⟩

theorem State.fastFrame_leaves (s : State) (code : Nat) : TransactionLeaves s (s.fastFrame code) := by
  obtain ⟨-, hf⟩ | ⟨-, hf⟩ := s.fastFrame_cases code <;> rw [hf]
  · exact s.reply_leaves _
  · exact s.sendFrame_leaves _ _ _

/-- A transaction instruction is none of the commands of the arbiter and the configuration. -/
theorem exec_transaction_leaves {i : Instr} {s t : State} (hi : isTransaction i = true) (h : exec i s = .next t) :
    TransactionLeaves s t := by
  obtain ⟨r, rfl⟩ | ⟨id, sub, mode, body, -, rfl⟩ | ⟨id, sub, mode, n, -, rfl⟩ | ⟨code, -, rfl⟩ |
    ⟨_, _, rfl, -⟩ | ⟨_, _, _, rfl, -⟩ | ⟨_, rfl, -⟩ | ⟨_, rfl, -⟩ | ⟨_, rfl, -⟩ := exec_cases h
  · exact s.reply_leaves r
  · exact s.writeFrame_leaves id sub mode body
  · exact s.readFrame_leaves id sub mode n
  · exact s.fastFrame_leaves code
  all_goals cases hi

/-! ## The footprint of any command -/

/-- A command has ended in `t`: it appended `new` to H, returned a result and kept what is not its device's session. -/
structure CommandDone (s t : State) (new : List Event) : Prop where
  events : t.events = s.events ++ new
  result : t.result ≠ none
  tables : t.tables = s.tables
  params : t.params = s.params
  handle : t.handle = s.handle
  parked : t.parked = s.parked
  inputs : t.inputs = s.inputs

theorem CommandDone.of_transaction {s t : State} (h : TransactionLeaves s t) :
    ∃ new, CommandDone s t new ∧ spiCalls new ≤ 1 ∧ new.length ≤ 3 := by
  obtain ⟨⟨htab, hpar, hhan, -, hpark, hin, -⟩, -, -, hev, hres⟩ := h
  obtain he | ⟨e, he, hspi⟩ := hev
  · exact ⟨[], ⟨by rw [he, List.append_nil], hres, htab, hpar, hhan, hpark, hin⟩, by decide, by decide⟩
  · exact ⟨[e], ⟨he, hres, htab, hpar, hhan, hpark, hin⟩, hspi.le, by simp⟩

theorem CommandDone.of_arbiter {s t : State} {new : List Event} (h : ArbiterKeeps s t) (he : t.events = s.events ++ new)
    (hr : t.result ≠ none) : CommandDone s t new := by
  obtain ⟨htab, hpar, hhan, hpark, hin, -⟩ := h
  exact ⟨he, hr, htab, hpar, hhan, hpark, hin⟩

theorem State.driveActive_result_ne_none (s : State) (pin : Nat) (date : Word32) (wait : Nat) :
    (s.driveActive pin date wait).result ≠ none := by
  obtain ⟨-, hd⟩ | ⟨_, -, hd⟩ := s.driveActive_cases pin date wait <;> simp [hd]

theorem State.driveActive_appends (s : State) (pin : Nat) (date : Word32) (wait : Nat) :
    ∃ new, (s.driveActive pin date wait).events = s.events ++ new ∧ spiCalls new = 0 ∧ new.length ≤ 2 := by
  refine ⟨_, (s.driveActive_events pin date wait).trans (List.append_assoc _ _ _), ?_, ?_⟩
  · split <;> rfl
  · split <;> simp

/-- CXSTART's calls: the device time, a sleep at most, and the GPIO write. -/
theorem State.arm_done (s : State) (pin : Nat) (delayed : Bool) (date : Word32) :
    ∃ new, CommandDone s (s.arm pin delayed date) new ∧ spiCalls new ≤ 1 ∧ new.length ≤ 3 := by
  have hkeeps := s.arm_keeps pin delayed date
  obtain ⟨-, ha⟩ | ⟨now, -, ha⟩ := s.arm_cases pin delayed date <;> rw [ha] at hkeeps ⊢
  · exact ⟨[.devTime s.devTime], .of_arbiter hkeeps rfl (by simp), Nat.zero_le 1, by simp⟩
  · obtain ⟨new, he, hspi, hlen⟩ := (s.readTime.setLastNow now).driveActive_appends pin
      (coexPlan s.params delayed date now).1 (coexPlan s.params delayed date now).2
    rw [State.setLastNow_events, State.readTime_events, List.append_assoc] at he
    exact ⟨_, .of_arbiter hkeeps he (State.driveActive_result_ne_none _ _ _ _), hspi.trans_le (Nat.zero_le 1),
      Nat.succ_le_succ hlen⟩

theorem State.configure_done (s : State) (pin : Option Nat) (level : BitVec 1) :
    ∃ new, CommandDone s (s.configure pin level) new ∧ spiCalls new ≤ 1 ∧ new.length ≤ 3 := by
  have hkeeps := s.configure_keeps pin level
  obtain ⟨-, hc⟩ | ⟨p, -, -, hc⟩ | ⟨p, _, -, -, hc⟩ := s.configure_cases pin level <;> rw [hc] at hkeeps ⊢
  · exact ⟨[], .of_arbiter hkeeps (by simp) (by simp), by decide, by decide⟩
  all_goals
    exact ⟨[.gpioConfig (pinMask p) (ackOfGpio s.gpioAck)], .of_arbiter hkeeps (by simp) (by simp), Nat.zero_le 1,
      by simp⟩

theorem exec_done {i : Instr} {s t : State} (h : exec i s = .next t) :
    ∃ new, CommandDone s t new ∧ spiCalls new ≤ 1 ∧ new.length ≤ 3 := by
  obtain ⟨r, rfl⟩ | ⟨id, sub, mode, body, -, rfl⟩ | ⟨id, sub, mode, n, -, rfl⟩ | ⟨code, -, rfl⟩ |
    ⟨pin, level, -, -, -, rfl⟩ | ⟨p, delayed, date, -, -, -, rfl⟩ | ⟨p, -, -, rfl⟩ | ⟨on, -, rfl⟩ |
    ⟨rate, -, rfl⟩ := exec_cases h
  · exact CommandDone.of_transaction (s.reply_leaves r)
  · exact CommandDone.of_transaction (s.writeFrame_leaves id sub mode body)
  · exact CommandDone.of_transaction (s.readFrame_leaves id sub mode n)
  · exact CommandDone.of_transaction (s.fastFrame_leaves code)
  · exact s.configure_done pin _
  · exact s.arm_done p delayed _
  · exact ⟨[.gpioSet _ _ _], .of_arbiter (s.release_keeps p) rfl (by simp [State.release]), Nat.zero_le 1, by simp⟩
  all_goals exact ⟨[], ⟨by simp, by simp, rfl, rfl, rfl, rfl, rfl⟩, by decide, by decide⟩

/-! ## What is written in the record S, and with which result -/

/-- The record is as it was; or CXCFG, SETCRC or SETRATE has written its fields and returned Ok; or CXSTART has kept the
device time that it read, and armed with Ok or not; or CXSTOP has released the pin. -/
theorem exec_record {i : Instr} {s t : State} (h : exec i s = .next t) :
    t.regs = s.regs ∨
    (∃ pin level, pinInRange s.params.npins pin = true ∧ s.regs.cxPhase = .idle ∧
      t.regs = { s.regs with cxPin := pin, cxActiveLevel := level } ∧ t.result = some ⟨.ok, .none⟩) ∨
    (∃ on rate, t.regs = { s.regs with crcWriteMode := on, spiRate := rate } ∧ t.result = some ⟨.ok, .none⟩) ∨
    (∃ p delayed date now, i = .cxstart delayed date ∧ s.regs.cxPin = some p ∧ s.devTime = some now ∧
      Event.devTime (some now) ∈ t.events ∧ (t.regs = { s.regs with cxLastNow := some now } ∨
        t.regs = { s.regs with cxLastNow := some now, cxPhase := .armed } ∧ ∃ out, t.result = some ⟨.ok, out⟩)) ∨
    (∃ p, i = .cxstop ∧ s.regs.cxPin = some p ∧ t.regs = { s.regs with cxPhase := .idle }) := by
  obtain ⟨r, rfl⟩ | ⟨id, sub, mode, body, -, rfl⟩ | ⟨id, sub, mode, n, -, rfl⟩ | ⟨code, -, rfl⟩ |
    ⟨pin, level, -, hpin, hidle, rfl⟩ | ⟨p, delayed, date, hi, hp, -, rfl⟩ | ⟨p, hi, hp, rfl⟩ | ⟨on, -, rfl⟩ |
    ⟨rate, -, rfl⟩ := exec_cases h
  · exact .inl (s.reply_regs r)
  · exact .inl (s.writeFrame_regs id sub mode body)
  · exact .inl (s.readFrame_regs id sub mode n)
  · exact .inl (s.fastFrame_regs code)
  · obtain ⟨rfl, hc⟩ | ⟨q, rfl, -, hc⟩ | ⟨q, _, -, -, hc⟩ := s.configure_cases pin (BitVec.ofNat 1 level) <;> rw [hc]
    · exact .inr (.inl ⟨none, _, hpin, hidle, rfl, rfl⟩)
    · exact .inr (.inl ⟨some q, _, hpin, hidle, rfl, rfl⟩)
    · exact .inl rfl
  · obtain ⟨-, ha⟩ | ⟨now, hnow, ha⟩ := s.arm_cases p delayed (BitVec.ofNat 32 date) <;> rw [ha]
    · exact .inl rfl
    · refine .inr (.inr (.inr (.inl ⟨p, delayed, date, now, hi, hp, hnow, ?_, ?_⟩)))
      · simp [State.driveActive_events, hnow]
      · obtain ⟨-, hd⟩ | ⟨_, -, hd⟩ := (s.readTime.setLastNow now).driveActive_cases p
          (coexPlan s.params delayed (BitVec.ofNat 32 date) now).1 (coexPlan s.params delayed (BitVec.ofNat 32 date) now).2
        · exact .inr ⟨by simp [hd], _, by rw [hd]; rfl⟩
        · exact .inl (by simp [hd])
  · exact .inr (.inr (.inr (.inr ⟨p, hi, hp, s.release_regs p⟩)))
  · exact .inr (.inr (.inl ⟨on, s.regs.spiRate, rfl, rfl⟩))
  · exact .inr (.inr (.inl ⟨s.regs.crcWriteMode, rate, rfl, rfl⟩))

end Sys2Proof.Machine

open Sys2Proof Sys2Proof.Machine Sys2Proof.Spec

/-- Settles O33: every transaction is a write, a read or a fast frame, each with this footprint. -/
theorem transactionsLeaveTheRecord : Obligations.TransactionsLeaveTheRecord := by
  intro i s t hi h
  obtain ⟨htraces, hgpio, htime, hevents, -⟩ := exec_transaction_leaves hi h
  exact ⟨htraces, hgpio, htime, hevents⟩

/-- Settles O10: the footprint of any command, field by field. -/
theorem historyOnlyGrows : Obligations.HistoryOnlyGrows := by
  intro i s t h
  obtain ⟨new, ⟨hev, hres, htab, hpar, hhan, hpark, hin⟩, hspi, hlen⟩ := exec_done h
  exact ⟨new, hev, hspi, hlen, hres, htab, hpar, hhan, hpark, hin⟩

/-- Settles O11: of the writes to the record, only CXSTART's lastNow and CXSTOP's phase come without an Ok. -/
theorem errorsLeaveTheRecord : Obligations.ErrorsLeaveTheRecord := by
  intro i s t c out h hr hc
  have notOk {out' : Outputs} (hok : t.result = some ⟨.ok, out'⟩) : False := by
    cases hr.symm.trans hok
    exact hc rfl
  obtain hregs | ⟨_, _, -, -, -, hok⟩ | ⟨_, _, -, hok⟩ | ⟨_, delayed, date, now, hi, -, -, -, hregs⟩ |
    ⟨_, hi, -, hregs⟩ := exec_record h
  · exact .inl hregs
  · exact (notOk hok).elim
  · exact (notOk hok).elim
  · obtain hregs | ⟨-, _, hok⟩ := hregs
    · exact .inr (.inl ⟨delayed, date, now, hi, hregs⟩)
    · exact (notOk hok).elim
  · exact .inr (.inr ⟨hi, hregs⟩)

/-- Settles O55: of the writes to the record, only CXSTART's and CXSTOP's reach the phase and lastNow. -/
theorem onlyTheArbiterChangesItsState : Obligations.OnlyTheArbiterChangesItsState := by
  intro i s t h
  obtain hregs | ⟨_, _, -, -, hregs, -⟩ | ⟨_, _, hregs, -⟩ | ⟨p, delayed, date, now, hi, hp, hnow, -, hregs⟩ |
    ⟨p, hi, hp, hregs⟩ := exec_record h
  · simp [hregs]
  · simp [hregs]
  · simp [hregs]
  · obtain hregs | ⟨hregs, out, hout⟩ := hregs
    · exact ⟨by simp [hregs], fun _ => ⟨delayed, date, now, hi, hnow, by rw [hregs]⟩⟩
    · exact ⟨fun _ => ⟨by simp [hp], .inl ⟨delayed, date, out, hi, by rw [hregs], hout⟩⟩,
        fun _ => ⟨delayed, date, now, hi, hnow, by rw [hregs]⟩⟩
  · exact ⟨fun _ => ⟨by simp [hp], .inr ⟨hi, by rw [hregs]⟩⟩, by simp [hregs]⟩
end

section
/-! SUPPORT. Two runs of one instruction side by side: what a command reads (10_state R26, R29, R39), and that the pure
commands read the parameters and the tables alone (10_state R21). -/

namespace Sys2Proof.Machine

open Sys2Proof.Spec

/-- Two answers of the same kind: next states that are related, or the same fault. -/
inductive Alike (R : State → State → Prop) : Answer → Answer → Prop
  | next {t t' : State} (h : R t t') : Alike R (.next t) (.next t')
  | fault (f : Fault) : Alike R (.fault f) (.fault f)

theorem Alike.ite {R : State → State → Prop} {c : Prop} [Decidable c] {a a' b b' : Answer} (ha : Alike R a a')
    (hb : Alike R b b') : Alike R (if c then a else b) (if c then a' else b') := by
  split
  · exact ha
  · exact hb

theorem Alike.next_inv {R : State → State → Prop} {a : Answer} {t : State} (h : Alike R (.next t) a) :
    ∃ t', a = .next t' ∧ R t t' := by
  cases h with
  | next h => exact ⟨_, rfl, h⟩

theorem Alike.fault_inv {R : State → State → Prop} {a : Answer} {f : Fault} (h : Alike R (.fault f) a) :
    a = .fault f := by
  cases h
  rfl

/-! ## The pure commands -/

/-- The commands that only reply: their checks, faults and result are functions of the operands, parameters and tables. -/
theorem exec_pure_alike {i : Instr} (hi : isPure i = true) {s s' : State} (hp : s'.params = s.params)
    (ht : s'.tables = s.tables) :
    Alike (fun t t' => ∃ r, t = s.reply r ∧ t' = s'.reply r) (exec i s) (exec i s') := by
  obtain ⟨_, _, _, _, _, _, _, _, _, _, _⟩ := s'
  dsimp only at hp ht
  subst hp ht
  cases i
  case rxdly => exact .ite (.next ⟨_, rfl, rfl⟩) (.ite (.fault _) (.ite (.fault _) (.ite (.fault _) (.next ⟨_, rfl, rfl⟩))))
  case rxtmo => exact .ite (.next ⟨_, rfl, rfl⟩) (.ite (.fault _) (.ite (.fault _) (.next ⟨_, rfl, rfl⟩)))
  case uus2dtu | us2dtu => exact .ite (.next ⟨_, rfl, rfl⟩) (.ite (.fault _) (.next ⟨_, rfl, rfl⟩))
  case enchdr | dechdr | crc8 | chkw | packle | unpackle | pboost | dtu2us | dtudiff => exact .next ⟨_, rfl, rfl⟩
  all_goals cases hi

theorem State.reply_inj {s : State} {r r' : Result} (h : s.reply r = s.reply r') : r = r' :=
  Option.some.inj (congrArg State.result h)

/-! ## What no command reads -/

/-- The state with another SPI rate, another remembered device time, other devices and other inputs. -/
def State.recast (s : State) (rate : SpiRate) (last : Option Word32) (parked : List (Nat × Session))
    (inputs : List HostInput) : State :=
  { s with regs := { s.regs with spiRate := rate, cxLastNow := last }, parked := parked, inputs := inputs }

section
variable (s : State) (rate : SpiRate) (last : Option Word32) (parked : List (Nat × Session)) (inputs : List HostInput)

@[simp] theorem State.recast_params : (s.recast rate last parked inputs).params = s.params := rfl
@[simp] theorem State.recast_gpioAck : (s.recast rate last parked inputs).gpioAck = s.gpioAck := rfl
@[simp] theorem State.recast_devTime : (s.recast rate last parked inputs).devTime = s.devTime := rfl
@[simp] theorem State.recast_cxPin : (s.recast rate last parked inputs).regs.cxPin = s.regs.cxPin := rfl

theorem State.sendFrame_recast (h b : List Byte) (crc : Bool) :
    (s.recast rate last parked inputs).sendFrame h b crc = (s.sendFrame h b crc).recast rate last parked inputs := by
  cases crc <;> rfl

theorem State.writeFrame_recast (id : Nat) (sub : Option Nat) (mode : Nat) (body : List Nat) :
    (s.recast rate last parked inputs).writeFrame id sub mode body =
      (s.writeFrame id sub mode body).recast rate last parked inputs := by
  simp only [State.writeFrame, State.recast_params]
  cases checkWrite s.params.maxBody id sub mode body with
  | error c => rfl
  | ok p => exact s.sendFrame_recast rate last parked inputs p.1 p.2 s.regs.crcWriteMode

theorem State.readFrame_recast (id : Nat) (sub : Option Nat) (mode n : Nat) :
    (s.recast rate last parked inputs).readFrame id sub mode n =
      (s.readFrame id sub mode n).recast rate last parked inputs := by
  simp only [State.readFrame, State.recast_params]
  cases checkRead s.params.maxBody id sub mode n <;> rfl

theorem State.fastFrame_recast (code : Nat) :
    (s.recast rate last parked inputs).fastFrame code = (s.fastFrame code).recast rate last parked inputs := by
  unfold State.fastFrame
  split
  · exact s.sendFrame_recast rate last parked inputs _ _ _
  · rfl

theorem State.configure_recast (pin : Option Nat) (level : BitVec 1) :
    (s.recast rate last parked inputs).configure pin level =
      (s.configure pin level).recast rate last parked inputs := by
  cases pin with
  | none => rfl
  | some p =>
    simp only [State.configure, State.recast_gpioAck]
    cases s.gpioAck <;> rfl

theorem State.sleepFor_recast (us : Nat) :
    (s.recast rate last parked inputs).sleepFor us = (s.sleepFor us).recast rate last parked inputs := by
  unfold State.sleepFor
  split <;> rfl

theorem State.driveActive_recast (pin : Nat) (date : Word32) (wait : Nat) :
    (s.recast rate last parked inputs).driveActive pin date wait =
      (s.driveActive pin date wait).recast rate last parked inputs := by
  simp only [State.driveActive, State.sleepFor_recast, State.recast_gpioAck]
  cases (s.sleepFor wait).gpioAck <;> rfl

/-- `t'` is `t` recast to the same other devices and inputs; its rate and remembered time are those of `t` where the run
began with those of `s`. -/
def RecastAfter (t t' : State) : Prop :=
  ∃ rate' last', t' = t.recast rate' last' parked inputs ∧ (rate = s.regs.spiRate → rate' = t.regs.spiRate) ∧
    (last = s.regs.cxLastNow → last' = t.regs.cxLastNow)

variable {s rate last parked inputs}

/-- A run that wrote neither of the two fields. -/
theorem recastAfter_of_kept {t t' : State} (ht' : t' = t.recast rate last parked inputs)
    (hrate : t.regs.spiRate = s.regs.spiRate) (hlast : t.regs.cxLastNow = s.regs.cxLastNow) :
    RecastAfter s rate last parked inputs t t' :=
  ⟨rate, last, ht', fun h => h.trans hrate.symm, fun h => h.trans hlast.symm⟩

variable (s rate last parked inputs)

/-- CXSTART overwrites the remembered time with the one it reads. -/
theorem State.arm_recast (pin : Nat) (delayed : Bool) (date : Word32) :
    RecastAfter s rate last parked inputs (s.arm pin delayed date)
      ((s.recast rate last parked inputs).arm pin delayed date) := by
  simp only [State.arm, State.recast_devTime]
  cases s.devTime with
  | none => exact recastAfter_of_kept rfl rfl rfl
  | some now =>
    obtain ⟨phase, hregs⟩ := (s.readTime.setLastNow now).driveActive_regs pin (coexPlan s.params delayed date now).1
      (coexPlan s.params delayed date now).2
    exact ⟨rate, some now, (s.readTime.setLastNow now).driveActive_recast rate (some now) parked inputs pin _ _,
      fun h => by rw [hregs]; exact h, fun _ => by rw [hregs]; rfl⟩

theorem exec_recast (i : Instr) :
    Alike (RecastAfter s rate last parked inputs) (exec i s) (exec i (s.recast rate last parked inputs)) := by
  have reply (r : Result) : RecastAfter s rate last parked inputs (s.reply r)
      ((s.recast rate last parked inputs).reply r) := recastAfter_of_kept rfl rfl rfl
  cases i
  case fastCommand | fcmd =>
    exact .next (recastAfter_of_kept (s.fastFrame_recast rate last parked inputs _) (by simp) (by simp))
  case shortRead | fullRead | rframe =>
    exact .next (recastAfter_of_kept (s.readFrame_recast rate last parked inputs _ _ _ _) (by simp) (by simp))
  case shortWrite | fullWrite | maskedWrite8 | maskedWrite16 | maskedWrite32 | wframe =>
    exact .next (recastAfter_of_kept (s.writeFrame_recast rate last parked inputs _ _ _ _) (by simp) (by simp))
  case enchdr | dechdr | crc8 | chkw | packle | unpackle | pboost | dtu2us | dtudiff => exact .next (reply _)
  case rxdly => exact .ite (.next (reply _)) (.ite (.fault _) (.ite (.fault _) (.ite (.fault _) (.next (reply _)))))
  case rxtmo => exact .ite (.next (reply _)) (.ite (.fault _) (.ite (.fault _) (.next (reply _))))
  case uus2dtu | us2dtu => exact .ite (.next (reply _)) (.ite (.fault _) (.next (reply _)))
  case cxcfg pin level =>
    obtain ⟨_, _, hregs⟩ := s.configure_regs pin (BitVec.ofNat 1 level)
    exact .ite (.next (reply _)) (.ite (.fault _) (.next (recastAfter_of_kept
      (s.configure_recast rate last parked inputs pin _) (by simp [hregs]) (by simp [hregs]))))
  case cxstart delayed date =>
    refine .ite (.next (reply _)) ?_
    rw [State.recast_cxPin]
    cases s.regs.cxPin with
    | none => exact .next (reply _)
    | some p => exact .ite (.fault _) (.next (s.arm_recast rate last parked inputs p delayed _))
  case cxstop =>
    refine .next ?_
    rw [State.recast_cxPin]
    cases s.regs.cxPin with
    | none => exact reply _
    | some p => exact recastAfter_of_kept rfl rfl rfl
  case setcrc on => exact .next (recastAfter_of_kept rfl rfl rfl)
  case setrate r => exact .next ⟨r, last, rfl, fun _ => rfl, fun h => h⟩

end

theorem exec_ne_refused (i : Instr) (s : State) (r : Refusal) : exec i s ≠ .refused r := by
  intro h
  have halike := exec_recast s s.regs.spiRate s.regs.cxLastNow s.parked s.inputs i
  rw [h] at halike
  cases halike

end Sys2Proof.Machine

open Sys2Proof Sys2Proof.Machine Sys2Proof.Spec

/-- Settles O12: a state with the same parameters and tables gives the same reply, and the state itself is one. -/
theorem pureCommandsChangeOnlyTheResult : Obligations.PureCommandsChangeOnlyTheResult := by
  intro i s t hi h
  have alike {s' : State} (hp : s'.params = s.params) (ht : s'.tables = s.tables) :
      ∃ t', exec i s' = .next t' ∧ ∃ r, t = s.reply r ∧ t' = s'.reply r :=
    (h ▸ exec_pure_alike hi hp ht).next_inv
  obtain ⟨-, -, r, rfl, -⟩ := alike (s' := s) rfl rfl
  refine ⟨r, rfl, fun s' hp ht => ?_⟩
  obtain ⟨_, ht', r', hr, rfl⟩ := alike hp ht
  rw [ht', State.reply_inj hr]

/-- Settles O13: a state with another rate and remembered time is `s` recast, and so is every next state. -/
theorem rateAndLastNowAreNeverRead : Obligations.RateAndLastNowAreNeverRead := by
  intro i s rate last s'
  have halike := exec_recast s rate last s.parked s.inputs i
  refine ⟨fun t h => ?_, fun f h => ?_⟩ <;> rw [h] at halike
  · obtain ⟨t', ht', _, _, rfl, -, -⟩ := halike.next_inv
    exact ⟨_, ht', rfl, rfl, rfl, rfl, rfl, rfl, rfl, rfl, rfl⟩
  · exact halike.fault_inv
end

section
/-! SUPPORT. The caller's contracts (60_exceptions R253, R255): where an instruction answers a next state. -/

namespace Sys2Proof.Machine

/-- The answer is a next state. -/
def IsNext (a : Answer) : Prop := ∃ t, a = .next t

@[simp] theorem isNext_next (t : State) : IsNext (.next t) := ⟨t, rfl⟩

/-- A fault's condition is excluded where the answer is a next state. -/
@[simp] theorem isNext_ite_fault (c : Prop) [Decidable c] (f : Fault) (a : Answer) :
    IsNext (if c then .fault f else a) ↔ ¬c ∧ IsNext a := by
  split
  next hc => exact iff_of_false (fun ⟨_, h⟩ => by cases h) fun h => h.1 hc
  next hc => exact ⟨fun h => ⟨hc, h⟩, fun h => h.2⟩

/-- A range error is a next state, so that the rest is asked of operands in range. -/
@[simp] theorem isNext_ite_next (c : Prop) [Decidable c] (t : State) (a : Answer) :
    IsNext (if c then .next t else a) ↔ (¬c → IsNext a) := by
  split
  next hc => exact ⟨fun _ h => absurd hc h, fun _ => isNext_next t⟩
  next hc => exact ⟨fun h _ => h, fun h => h hc⟩

theorem underflow_not_fault_iff (base sub : Nat) (policy : UnderflowPolicy) :
    (underflows base sub = true → ¬policy = .fault) ↔ (policy = .fault → sub ≤ base) :=
  ⟨fun h hp => Nat.not_lt.1 fun hlt => h (decide_eq_true hlt) hp,
    fun h hu hp => absurd (h hp) (Nat.not_le.2 (of_decide_eq_true hu))⟩

end Sys2Proof.Machine

open Sys2Proof Sys2Proof.Machine Sys2Proof.Spec

/-- Settles O6: the conditions of a contract are the negations of the tests that lead to a fault, behind the range check. -/
theorem faultsExactlyWhenAContractIsBroken : Obligations.FaultsExactlyWhenAContractIsBroken := by
  intro i s
  refine ⟨?_, exec_ne_refused i s⟩
  change IsNext (exec i s) ↔ ContractKept i s
  cases i
  case rxdly => simp [exec, execRxdly, ContractKept, underflow_not_fault_iff, fitsU32]
  case rxtmo => simp [exec, execRxtmo, ContractKept, fitsU32]
  case uus2dtu => simp [exec, execUus2dtu, ContractKept, isU32, fitsU32]
  case us2dtu => simp [exec, execUs2dtu, ContractKept, isU32, fitsU32]
  case cxcfg => simp [exec, execCxcfg, ContractKept, ne_armed_iff]
  case cxstart =>
    cases hpin : s.regs.cxPin <;> simp [exec, execCxstart, ContractKept, hpin, isU32, ne_armed_iff]
  all_goals exact iff_of_true ⟨_, rfl⟩ trivial
end

section
/-! SUPPORT. Steps and devices (10_state R20, R39; 70_reset_and_hazards R281 to R283): the step as the selection of a device
and then a restart or an instruction, which keeps to that device. -/

namespace Sys2Proof.Machine

/-! ## The step -/

theorem step_issue {s : State} {k : Nat} {w : HostWord} {rest : List HostInput} (h : s.inputs = .issue k w :: rest) :
    step s = runWord w (s.consume.select k) := by
  rw [step, h]

theorem runWord_of_decode {w : HostWord} {i : Instr} (h : decode w = .ok i) (s : State) : runWord w s = exec i s := by
  rw [runWord, h]

theorem runWord_next {w : HostWord} {s t : State} (h : runWord w s = .next t) : ∃ i, exec i s = .next t := by
  unfold runWord at h
  split at h
  · exact ⟨_, h⟩
  · cases h

/-- A step that answers a next state waited, restarted the selected device, or executed an instruction on it. -/
theorem step_next {s t : State} (h : step s = .next t) :
    (s.inputs = [] ∧ t = s) ∨
    (∃ k rest, s.inputs = .reset k :: rest ∧ t = (s.consume.select k).restart) ∨
    (∃ k w rest i, s.inputs = .issue k w :: rest ∧ exec i (s.consume.select k) = .next t) := by
  match hs : s.inputs with
  | [] =>
    rw [step, hs] at h
    cases h
    exact .inl ⟨rfl, rfl⟩
  | .reset k :: rest =>
    rw [step_reset hs] at h
    cases h
    exact .inr (.inl ⟨k, rest, rfl, rfl⟩)
  | .issue k w :: rest =>
    rw [step_issue hs] at h
    obtain ⟨i, hi⟩ := runWord_next h
    exact .inr (.inr ⟨k, w, rest, i, rfl, hi⟩)

/-! ## The selected device -/

theorem State.consume_select_inputs {s : State} {input : HostInput} {rest : List HostInput}
    (h : s.inputs = input :: rest) (k : Nat) : (s.consume.select k).inputs = rest := by
  rw [State.select_inputs, State.consume_inputs, h]
  rfl

theorem State.consume_select_current (s : State) (k : Nat) : (s.consume.select k).current = s.session k :=
  s.consume.select_current k

theorem State.consume_select_params (s : State) (k : Nat) : (s.consume.select k).params = (s.session k).params :=
  congrArg Session.params (s.consume_select_current k)

theorem State.session_of_ne {s : State} {j : Nat} (h : j ≠ s.handle) : s.session j = lookupSession j s.parked := if_neg h

theorem State.session_handle (s : State) : s.session s.handle = s.current := if_pos rfl

/-- A step that takes an input for `k` ends with `k` selected and with the parameters, the tables and the other devices
of the state in which `k` was selected. -/
theorem step_keeps {s t : State} {input : HostInput} {k : Nat} {rest : List HostInput} (hs : s.inputs = input :: rest)
    (hk : input = .reset k ∨ ∃ w, input = .issue k w) (h : step s = .next t) :
    t.tables = s.tables ∧ t.params = (s.session k).params ∧ t.handle = k ∧ t.inputs = rest ∧
      t.parked = (s.consume.select k).parked := by
  have htab : (s.consume.select k).tables = s.tables := State.select_tables _ _
  have hhan : (s.consume.select k).handle = k := State.select_handle _ _
  have hpar := s.consume_select_params k
  have hin := State.consume_select_inputs hs k
  obtain rfl | ⟨w, rfl⟩ := hk
  · rw [step_reset hs] at h
    cases h
    exact ⟨htab, hpar, hhan, hin, rfl⟩
  · rw [step_issue hs] at h
    obtain ⟨i, hi⟩ := runWord_next h
    obtain ⟨new, hdone, -⟩ := exec_done hi
    exact ⟨hdone.tables.trans htab, hdone.params.trans hpar, hdone.handle.trans hhan, hdone.inputs.trans hin,
      hdone.parked⟩

/-! ## Two states that agree on a device -/

/-- A state with the same selected device is this one recast to other devices and inputs. -/
theorem State.eq_recast {u u' : State} (hh : u'.handle = u.handle) (ht : u'.tables = u.tables)
    (hc : u'.current = u.current) : u' = u.recast u.regs.spiRate u.regs.cxLastNow u'.parked u'.inputs := by
  obtain ⟨_, _, _, _, _, _, _, _, _, _, _⟩ := u
  obtain ⟨_, _, _, _, _, _, _, _, _, _, _⟩ := u'
  cases hh
  cases ht
  cases hc
  rfl

theorem State.recast_session (s : State) (parked : List (Nat × Session)) (inputs : List HostInput) :
    (s.recast s.regs.spiRate s.regs.cxLastNow parked inputs).session s.handle = s.session s.handle :=
  (State.session_handle _).trans s.session_handle.symm

/-- One instruction on two states with the same tables and the same selected device. -/
theorem exec_alike {u u' : State} (hh : u'.handle = u.handle) (ht : u'.tables = u.tables) (hc : u'.current = u.current)
    (i : Instr) : Alike (fun t t' => t'.session u.handle = t.session u.handle) (exec i u) (exec i u') := by
  have halike := exec_recast u u.regs.spiRate u.regs.cxLastNow u'.parked u'.inputs i
  rw [← State.eq_recast hh ht hc] at halike
  cases hi : exec i u with
  | next t =>
    obtain ⟨new, hdone, -⟩ := exec_done hi
    rw [hi] at halike
    obtain ⟨t', ht', _, _, rfl, hrate, hlast⟩ := halike.next_inv
    rw [ht', hrate rfl, hlast rfl, ← hdone.handle]
    exact .next (t.recast_session _ _)
  | fault f =>
    rw [hi] at halike
    rw [halike.fault_inv]
    exact .fault f
  | refused r => exact absurd hi (exec_ne_refused i u r)

/-- One restart likewise. -/
theorem restart_alike {u u' : State} (hh : u'.handle = u.handle) (ht : u'.tables = u.tables)
    (hc : u'.current = u.current) : u'.restart.session u.handle = u.restart.session u.handle := by
  rw [State.eq_recast hh ht hc]
  exact (State.session_handle _).trans u.restart.session_handle.symm

/-- One step likewise, when both states take the same input for the device. -/
theorem step_alike {s s' : State} {k : Nat} {input : HostInput} {rest rest' : List HostInput}
    (hk : input = .reset k ∨ ∃ w, input = .issue k w) (hs : s.inputs = input :: rest) (hs' : s'.inputs = input :: rest')
    (htab : s'.tables = s.tables) (hsession : s'.session k = s.session k) :
    Alike (fun t t' => t'.session k = t.session k) (step s) (step s') ∨
      ∃ r, step s = .refused r ∧ step s' = .refused r := by
  have hh : (s'.consume.select k).handle = (s.consume.select k).handle := by simp
  have ht : (s'.consume.select k).tables = (s.consume.select k).tables := by simpa using htab
  have hc : (s'.consume.select k).current = (s.consume.select k).current := by
    rw [State.consume_select_current, State.consume_select_current, hsession]
  have hsel : (s.consume.select k).handle = k := State.select_handle _ _
  obtain rfl | ⟨w, rfl⟩ := hk
  · have hrestart := restart_alike hh ht hc
    rw [hsel] at hrestart
    rw [step_reset hs, step_reset hs']
    exact .inl (.next hrestart)
  · cases hw : decode w with
    | ok i =>
      have halike := exec_alike hh ht hc i
      rw [hsel] at halike
      rw [step_issue hs, step_issue hs', runWord_of_decode hw, runWord_of_decode hw]
      exact .inl halike
    | error e => exact .inr ⟨refusalOf e, step_of_decode_error hs hw, step_of_decode_error hs' hw⟩

end Sys2Proof.Machine

open Sys2Proof Sys2Proof.Machine Sys2Proof.Spec

/-- Settles O2: a reset input selects its device and restarts it, which leaves every field but the record and the result. -/
theorem resetTouchesNoCollaborator : Obligations.ResetTouchesNoCollaborator := by
  intro s k rest hs
  have hc := s.consume_select_current k
  exact ⟨_, step_reset hs, congrArg Session.gpio hc, congrArg Session.gpioDir hc, congrArg Session.answers hc,
    congrArg Session.events hc, rfl, rfl, rfl, congrArg Session.params hc, State.select_handle _ _,
    State.consume_select_inputs hs k⟩

/-- Settles O3: the empty list is the step's first case. -/
theorem waitsForTheHost : Obligations.WaitsForTheHost := fun s hs => by rw [step, hs]

/-- Settles O4: the step selects the device and runs the instruction there; selecting changes no session. -/
theorem stepRunsTheDecodedWord : Obligations.StepRunsTheDecodedWord := by
  intro s k w rest i hs hw
  exact ⟨s.consume.select k, (step_issue hs).trans (runWord_of_decode hw _), State.select_handle _ _,
    State.consume_select_inputs hs k, s.consume_select_current k, s.consume.select_session k, State.select_tables _ _⟩

/-- Settles O9: the devices that are not selected are those of the list, which no command or restart writes. -/
theorem devicesAreIsolated : Obligations.DevicesAreIsolated := by
  intro s t k j rest hs h hj
  obtain ⟨input, hin, hk⟩ : ∃ input, s.inputs = input :: rest ∧ (input = .reset k ∨ ∃ w, input = .issue k w) := by
    obtain hs | ⟨w, hs⟩ := hs
    · exact ⟨_, hs, .inl rfl⟩
    · exact ⟨_, hs, .inr ⟨w, rfl⟩⟩
  obtain ⟨htab, hpar, hhan, hrest, hpark⟩ := step_keeps hin hk h
  refine ⟨?_, htab, hpar, hhan, hrest⟩
  calc t.session j = lookupSession j (s.consume.select k).parked := by rw [State.session_of_ne (hhan ▸ hj), hpark]
    _ = (s.consume.select k).session j := (State.session_of_ne (by simpa using hj)).symm
    _ = s.session j := s.consume.select_session k j

/-- Settles O59: with the device selected the two states differ in what no command reads or writes. -/
theorem devicesNeverReadEachOther : Obligations.DevicesNeverReadEachOther := by
  intro s s' k input rest rest' hk hs hs' htab hsession
  obtain halike | ⟨r, hr, hr'⟩ := step_alike hk hs hs' htab hsession
  · refine ⟨fun t h => ?_, fun f h => ?_, fun r h => ?_⟩ <;> rw [h] at halike
    · exact halike.next_inv
    · exact halike.fault_inv
    · cases halike
  · rw [hr, hr']
    exact ⟨fun _ h => (by cases h), fun _ h => (by cases h), fun _ h => h⟩
end

section
/-! SUPPORT. The invariant (10_state sections 3 and 8, 00_scope R7, 42_timing_budget R172): it holds at reset, and every
operation that a step is made of keeps it. -/

namespace Sys2Proof.Machine

/-! ## At reset -/

theorem config_lut1_ok : Lut1Ok Config.lut1 := by
  unfold Config.lut1
  split
  next h => exact h
  next => decide

theorem config_lut2_ok : Lut2Ok Config.lut2 := by
  unfold Config.lut2
  split
  next h => exact h
  next => decide

theorem config_coex_sum (k : Nat) :
    0 < (Config.coex k).1 + (Config.coex k).2 ∧ (Config.coex k).1 + (Config.coex k).2 ≤ 8603700 := by
  unfold Config.coex
  split
  next h => exact h
  next => decide

/-- The ratio 1248/5 brings a legal sum of coexistence times into 1 to 2^31 - 1 (R7). -/
theorem config_params_ok (k : Nat) : Params.Ok (Config.params k) := by
  obtain ⟨hpos, hmax⟩ := config_coex_sum k
  have htotal : coexTotal (Config.params k) = (Config.coex k).1 + (Config.coex k).2 := rfl
  have hdtu : usToDtu (Config.params k) (coexTotal (Config.params k)) = coexTotal (Config.params k) * 1248 / 5 := rfl
  have hnpins : (Config.params k).npins = Config.rawPins k % 32 + 1 := rfl
  refine ⟨Nat.le_add_left 8 _, Nat.zero_lt_succ _, Nat.zero_lt_succ _, Nat.zero_lt_succ _, ?_, ?_, ?_, ?_, ?_⟩ <;> omega

/-- A device with the reset record meets the invariant wherever its parameters do. -/
theorem sessionOk_of_reset {v : Session} (hp : Params.Ok v.params) (hr : v.regs = Record.reset) : v.Ok := by
  refine ⟨hp, ?_, ?_, ?_⟩ <;> rw [hr]
  · rfl
  · exact fun h => by cases h
  · exact fun _ h => by cases h

theorem sessionOk_fresh (k : Nat) : (Session.fresh k).Ok := sessionOk_of_reset (config_params_ok k) rfl

/-! ## Selecting and restarting -/

theorem State.select_inv {s : State} (h : s.Inv) (k : Nat) : (s.select k).Inv := by
  obtain ⟨htab, hcur, hparked, hwf⟩ := h
  refine ⟨by rwa [State.select_tables], ?_, fun e he => ?_, s.select_parkedWf k hwf⟩
  · rw [State.select_current]
    obtain hs | hs | hs := s.session_mem k
    · rwa [hs]
    · rw [hs]
      exact sessionOk_fresh k
    · exact hparked _ hs
  · obtain he | he := s.select_parked_mem k e he
    · rwa [he]
    · exact hparked e he

theorem State.restart_inv {s : State} (h : s.Inv) : s.restart.Inv := by
  obtain ⟨htab, ⟨hpar, -⟩, hparked, hwf⟩ := h
  exact ⟨htab, sessionOk_of_reset hpar rfl, hparked, hwf⟩

/-! ## Executing -/

/-- A session stays Ok when its parameters stay, H grows, and the arbiter's fields stay in order. -/
theorem sessionOk_of_done {s t : State} {new : List Event} (hdone : CommandDone s t new) (hok : s.current.Ok)
    (hpin : pinInRange s.params.npins s.regs.cxPin = true → pinInRange s.params.npins t.regs.cxPin = true)
    (harmed : (s.regs.cxPhase = .armed → s.regs.cxPin ≠ none) → t.regs.cxPhase = .armed → t.regs.cxPin ≠ none)
    (hnow : t.regs.cxLastNow = s.regs.cxLastNow ∨
      ∃ now, t.regs.cxLastNow = some now ∧ Event.devTime (some now) ∈ t.events) : t.current.Ok := by
  obtain ⟨hpar, hpin', harmed', hnow'⟩ := hok
  have hparams : t.current.params = s.params := hdone.params
  refine ⟨by rwa [hparams], by rw [hparams]; exact hpin hpin', harmed harmed', fun now h => ?_⟩
  obtain hsame | ⟨now', hnew, hmem⟩ := hnow
  · have hold : Event.devTime (some now) ∈ s.events := hnow' now (hsame.symm.trans h)
    show _ ∈ t.events
    rw [hdone.events]
    exact List.mem_append_left _ hold
  · cases hnew.symm.trans h
    exact hmem

theorem exec_sessionOk {i : Instr} {s t : State} (h : exec i s = .next t) (hok : s.current.Ok) : t.current.Ok := by
  obtain ⟨new, hdone, -⟩ := exec_done h
  obtain hregs | ⟨pin, level, hpin, hidle, hregs, -⟩ | ⟨_, _, hregs, -⟩ | ⟨p, _, _, now, -, hp, -, hmem, hregs⟩ |
    ⟨p, -, hp, hregs⟩ := exec_record h
  · exact sessionOk_of_done hdone hok (by rw [hregs]; exact id) (by rw [hregs]; exact id) (.inl (by rw [hregs]))
  · refine sessionOk_of_done hdone hok ?_ ?_ (.inl (by rw [hregs])) <;> rw [hregs]
    · exact fun _ => hpin
    · exact fun _ ha => absurd ha ((ne_armed_iff _).2 hidle)
  · exact sessionOk_of_done hdone hok (by rw [hregs]; exact id) (by rw [hregs]; exact id) (.inl (by rw [hregs]))
  · have hpin : t.regs.cxPin = s.regs.cxPin := by obtain hregs | ⟨hregs, -⟩ := hregs <;> rw [hregs]
    have hlast : t.regs.cxLastNow = some now := by obtain hregs | ⟨hregs, -⟩ := hregs <;> rw [hregs]
    exact sessionOk_of_done hdone hok (by rw [hpin]; exact id) (by simp [hpin, hp]) (.inr ⟨now, hlast, hmem⟩)
  · exact sessionOk_of_done hdone hok (by rw [hregs]; exact id) (by simp [hregs]) (.inl (by rw [hregs]))

theorem exec_inv {i : Instr} {s t : State} (h : exec i s = .next t) (hinv : s.Inv) : t.Inv := by
  obtain ⟨htab, hcur, hparked, hwf⟩ := hinv
  obtain ⟨new, hdone, -⟩ := exec_done h
  exact ⟨by rwa [hdone.tables], exec_sessionOk h hcur, by rwa [hdone.parked], by rwa [hdone.handle, hdone.parked]⟩

end Sys2Proof.Machine

open Sys2Proof Sys2Proof.Machine

/-- Settles O7: the free values of the configuration are brought into the constraints, and no other device is listed. -/
theorem resetMeetsTheInvariant : Obligations.ResetMeetsTheInvariant :=
  ⟨⟨config_lut1_ok, config_lut2_ok⟩, sessionOk_fresh 0, fun _ h => absurd h List.not_mem_nil,
    List.Pairwise.nil, fun _ h => absurd h List.not_mem_nil, fun _ h => absurd h List.not_mem_nil⟩

/-- Settles O8: selecting, restarting and executing each keep the invariant, and a step is made of them. -/
theorem stepKeepsTheInvariant : Obligations.StepKeepsTheInvariant := by
  intro s t hinv h
  obtain ⟨-, rfl⟩ | ⟨k, _, -, rfl⟩ | ⟨k, _, _, i, -, hi⟩ := step_next h
  · exact hinv
  · exact State.restart_inv (State.select_inv (s := s.consume) hinv k)
  · exact exec_inv hi (State.select_inv (s := s.consume) hinv k)
end
